-- ==== Sys2Proof/Word.lean ====
section
/-! DEFINITION. The word types of SPECTRUM-CORE (00_scope.md R8, R9). -/

namespace Sys2Proof

/-- A register word, a bus word, a command word: u32 (20_memory.md R51). -/
abbrev Word := BitVec 32

/-- One byte lane of a word (20_memory.md R53), and the type of a stored hysteresis counter (10_state.md R33). -/
abbrev Byte := BitVec 8

/-- A bus address as the block sees it: 12 bits (30_encoding.md R81). -/
abbrev Addr := BitVec 12

end Sys2Proof
end

