-- ==== Sys2Proof/Syntax.lean ====
section
/-! DEFINITION. The ten commands (30_encoding.md R84) and the steps of the agents (30_encoding.md R80, R92). -/

namespace Sys2Proof

/-- A command, one constructor per row of the opcode map of 30_encoding.md R84. An operand has the width of its
field in the command word (R82, R83); its range is checked by `Instr.wf`. -/
inductive Instr where
  /-- Do nothing (44_control.md R182). -/
  | nop
  /-- Release the frame to acquisition (40_acquisition.md R105). -/
  | rel
  /-- Compute the whole spectrum and fold it (41_spectral.md R127). -/
  | dft
  /-- Compute bin `k` (41_spectral.md R128). -/
  | dftb (k : BitVec 8)
  /-- Recompute the buckets from POWER (42_band_mapper.md R141). -/
  | fold
  /-- Evaluate the comparator of every channel (42_band_mapper.md R144). -/
  | map
  /-- One frame of the hysteresis bank (43_hysteresis.md R162). -/
  | hyst
  /-- Process one frame end to end (44_control.md R183). -/
  | frame
  /-- Clear the hysteresis bank (43_hysteresis.md R163). -/
  | hclr
  /-- Set the active bit of channel `c` to `v` (42_band_mapper.md R145). -/
  | seta (c : BitVec 4) (v : BitVec 8)
deriving DecidableEq, Repr

/-- The mnemonic of 30_encoding.md R84. -/
def Instr.mnemonic : Instr → String
  | .nop => "NOP"
  | .rel => "REL"
  | .dft => "DFT"
  | .dftb _ => "DFTB"
  | .fold => "FOLD"
  | .map => "MAP"
  | .hyst => "HYST"
  | .frame => "FRAME"
  | .hclr => "HCLR"
  | .seta _ _ => "SETA"

/-- A step of one agent (00_scope.md R13; 30_encoding.md R80). -/
inductive Event where
  /-- HOST: `RD addr` (44_control.md R186). -/
  | busRead (addr : Addr)
  /-- HOST: `WR addr, d` (44_control.md R187). -/
  | busWrite (addr : Addr) (data : Word)
  /-- ADC: one sample event (40_acquisition.md R100). The port `adc_data` carries the low SB bits of `data`. -/
  | sample (data : BitVec 16)
  /-- SYNC: the acquisition-to-core half (40_acquisition.md R103). -/
  | syncA2C
  /-- SYNC: the core-to-acquisition half (40_acquisition.md R104). -/
  | syncC2A
  /-- ENGINE: run the pending command (44_control.md R181). -/
  | exec
  /-- ENGINE: issue FRAME in autonomous mode (44_control.md R184). -/
  | autoIssue
  /-- The reset event on `rst` (70_reset_and_hazards.md R220). -/
  | reset
deriving DecidableEq, Repr, Inhabited

end Sys2Proof
end

