-- ==== Sys2Proof/Config.lean ====
section
/-! DEFINITION. The implementation parameters (00_scope.md R5), when a configuration is well formed (R6, R7), the
defaults, and the free values of the model. -/

namespace Sys2Proof

/-- Rounding of the scaling shift (00_scope.md R5; 41_spectral.md R123). -/
inductive ShiftMode where
  | floor
  | trunc
deriving DecidableEq, Repr

/-- Where the scaling shift applies (00_scope.md R5; 41_spectral.md R124). -/
inductive ShiftPoint where
  | perProduct
  | perSum
deriving DecidableEq, Repr

/-- Counter update on an active frame (00_scope.md R5; 43_hysteresis.md R160, R161). -/
inductive AttackMode where
  | inc1
  | loadMax
deriving DecidableEq, Repr

/-- The parameters of 00_scope.md R5. -/
structure Config where
  /-- N: samples per frame, length of the twiddle ROM. -/
  n : Nat
  /-- SB: width of one sample. -/
  sb : Nat
  /-- TW_BITS: width of one twiddle word. -/
  twBits : Nat
  /-- F: fraction bits of a twiddle word, the right-shift amount. -/
  f : Nat
  /-- TWIDDLE[0..N-1] (10_state.md R35). -/
  twiddle : List Int
  /-- SHIFT_MODE. -/
  shiftMode : ShiftMode
  /-- SHIFT_POINT. -/
  shiftPoint : ShiftPoint
  /-- ACC_BITS: width of the accumulators. -/
  accBits : Nat
  /-- NUM_CH: number of channels. -/
  numCh : Nat
  /-- NBD: number of direct buckets; the residual bucket has this index. -/
  nbd : Nat
  /-- MAX: ceiling of the hysteresis counter. -/
  max : Nat
  /-- ATTACK_MODE. -/
  attackMode : AttackMode
  /-- THRESH[c], c < NUM_CH (10_state.md R36). -/
  thresh : List Word
  /-- SEL[c], c < NUM_CH (10_state.md R36). -/
  sel : List Nat
  /-- AUTOSTART: reset value of CTRL.ACQ_EN and CTRL.AUTO. -/
  autostart : Bool
  /-- BASE: bus address of the 4 KiB window, any 4 KiB-aligned address; OPEN (92_eei_decisions.md D19), and no rule
  reads it. -/
  base : Nat
deriving DecidableEq, Repr

/-- NB = N/2 + 1, the number of bins (00_scope.md R5). -/
def Config.nb (c : Config) : Nat := c.n / 2 + 1

/-- NBK = NBD + 1, the number of buckets (00_scope.md R5). -/
def Config.nbk (c : Config) : Nat := c.nbd + 1

/-- SMIN = -2^(SB-1) (00_scope.md R5). -/
def Config.smin (c : Config) : Int := -2 ^ (c.sb - 1)

/-- SMAX = 2^(SB-1) - 1 (00_scope.md R5). -/
def Config.smax (c : Config) : Int := 2 ^ (c.sb - 1) - 1

/-- TMAX: the greatest magnitude of a twiddle word (00_scope.md R7). -/
def Config.tmax (c : Config) : Nat := (c.twiddle.map Int.natAbs).foldr Nat.max 0

/-- The quotient rounded up. -/
def ceilDiv (a b : Nat) : Nat := (a + b - 1) / b

/-- BT = ceil(2^(SB-1) * TMAX / 2^F): the bound on one shifted product (00_scope.md R7). -/
def Config.termBound (c : Config) : Nat := ceilDiv (2 ^ (c.sb - 1) * c.tmax) (2 ^ c.f)

/-- A: the bound on |re| and |im| (00_scope.md R7). -/
def Config.accBound (c : Config) : Nat :=
  match c.shiftPoint with
  | .perProduct => c.n * c.termBound
  | .perSum => ceilDiv (c.n * 2 ^ (c.sb - 1) * c.tmax) (2 ^ c.f)

/-- floor_div(2 A^2, N^2): the bound on the power of one bin (00_scope.md R7; 41_spectral.md R126). -/
def Config.powerBound (c : Config) : Nat := 2 * c.accBound ^ 2 / c.n ^ 2

/-- 00_scope.md R6(a) and (b): every parameter is in the legal range of R5, and the tables have their lengths. BASE has no
upper bound, since no file gives the fabric's address width (log entry 14). -/
abbrev Config.parametersLegal (c : Config) : Prop :=
  c.n ∈ [4, 8, 16, 32, 64] ∧ 2 ≤ c.sb ∧ c.sb ≤ 16 ∧ c.twBits = 16 ∧ 1 ≤ c.f ∧ c.f ≤ 14 ∧ c.accBits = 32 ∧
  1 ≤ c.numCh ∧ c.numCh ≤ 16 ∧ 1 ≤ c.nbd ∧ c.nbd ≤ c.n / 2 + 1 ∧ 1 ≤ c.max ∧ c.max ≤ 255 ∧
  c.twiddle.length = c.n ∧ c.thresh.length = c.numCh ∧ c.sel.length = c.numCh ∧
  c.base % 4096 = 0

/-- 00_scope.md R6(c): every twiddle word fits TW_BITS = 16 bits. -/
abbrev Config.twiddleLegal (c : Config) : Prop := ∀ t ∈ c.twiddle, -2 ^ 15 ≤ t ∧ t ≤ 2 ^ 15 - 1

/-- 00_scope.md R6(d). -/
abbrev Config.selLegal (c : Config) : Prop := ∀ b ∈ c.sel, b ≤ c.nbd

/-- 00_scope.md R7: the extra condition under PER_SUM. -/
abbrev Config.perSumFits (c : Config) : Prop :=
  c.shiftPoint = .perSum → c.n * 2 ^ (c.sb - 1) * c.tmax ≤ 2 ^ (c.accBits - 1) - 1

/-- 00_scope.md R6(e), R7: the no-overflow bound. -/
abbrev Config.noOverflow (c : Config) : Prop :=
  c.perSumFits ∧ c.accBound ≤ 2 ^ (c.accBits - 1) - 1 ∧ c.nb * c.powerBound ≤ 2 ^ 32 - 1

/-- A well-formed configuration (00_scope.md R6). The model refuses any other. -/
abbrev Config.wf (c : Config) : Prop :=
  c.parametersLegal ∧ c.twiddleLegal ∧ c.selLegal ∧ c.noOverflow

/-- The default ROM for N = 32 and F = 14 (41_spectral.md R121). -/
def Config.twiddle32 : List Int :=
  [16384, 16069, 15137, 13623, 11585, 9102, 6270, 3196,
   0, -3196, -6270, -9102, -11585, -13623, -15137, -16069,
   -16384, -16069, -15137, -13623, -11585, -9102, -6270, -3196,
   0, 3196, 6270, 9102, 11585, 13623, 15137, 16069]

/-- 2^60 cos(2 pi j / 64) to the nearest integer, j = 0..16. PRESUMED (log entry 10): the values are mathematics the
spec does not print (41_spectral.md R120 says so of its own formula). -/
def Config.quarterCosine : List Nat :=
  [1152921504606846976, 1147369872436662991, 1130768441178740757, 1103277091691359535, 1065160580698383124,
   1016785991037278313, 958619196450722178, 891220374967787610, 815238614083298888, 731405659690429196,
   640528868967736374, 543483435088187080, 441203958630471860, 334675446864527722, 224923827593068887,
   113006068906017470, 0]

/-- floor(|x| + 1/2) of 41_spectral.md R120 for x = 2^F cos(2 pi j / 64), 0 <= j <= 16. -/
def Config.quarterTwiddle (f j : Nat) : Int :=
  ((quarterCosine.getD j 0 + 2 ^ (59 - f)) / 2 ^ (60 - f) : Nat)

/-- The default table of 41_spectral.md R120 for any legal N and F, by the cosine's symmetries (log entry 10). -/
def Config.defaultTwiddle (n f : Nat) : List Int :=
  (List.range n).map fun j =>
    let p := j * (64 / n)
    if p ≤ 16 then quarterTwiddle f p
    else if p ≤ 32 then -quarterTwiddle f (32 - p)
    else if p ≤ 48 then -quarterTwiddle f (p - 32)
    else quarterTwiddle f (64 - p)

/-- The defaults of 00_scope.md R5 that depend on N, NUM_CH and NBD, around the other defaults. -/
def Config.sized (n numCh max : Nat) (twiddle : List Int) : Config :=
  let nbd := min numCh (n / 2 + 1)
  { n, sb := 8, twBits := 16, f := 14, twiddle, shiftMode := .floor, shiftPoint := .perProduct, accBits := 32,
    numCh, nbd, max, attackMode := .inc1, thresh := List.replicate numCh 0,
    sel := (List.range numCh).map fun c => min c nbd, autostart := false, base := 0 }

/-- Every parameter at its default (00_scope.md R5). BASE is OPEN in the spec; 0 is a DESIGN CHOICE (log entry 14). -/
def Config.default : Config := Config.sized 32 8 16 Config.twiddle32

/-- FREE VALUE: the event the agents take at a step for which the agenda names none (00_scope.md R13; log entry 2). -/
opaque Config.freeEvent : Nat → Event

/-- FREE VALUE: the draw of a bus read (00_scope.md R11; 20_memory.md R58, R61, R64 to R67; log entry 4). -/
opaque Config.freeWord : Nat → Word

/-- FREE VALUE: the bits of a frame slot that nothing has written since reset (10_state.md R41; log entry 6). -/
opaque Config.freeSample : Nat → BitVec 16

end Sys2Proof
end

