-- ==== Sys2Proof/WellFormed.lean ====
section
/-! DEFINITION. When a command's operands are in range (30_encoding.md R83). -/

namespace Sys2Proof

/-- The operand ranges of 30_encoding.md R83: DFTB's bin is at most N/2, SETA's channel is below NUM_CH and its
value at most 1. The other commands take no operand. -/
def Instr.wf (cfg : Config) : Instr → Bool
  | .nop => true
  | .rel => true
  | .dft => true
  | .dftb k => decide (k.toNat ≤ cfg.n / 2)
  | .fold => true
  | .map => true
  | .hyst => true
  | .frame => true
  | .hclr => true
  | .seta c v => decide (c.toNat < cfg.numCh ∧ v.toNat ≤ 1)

end Sys2Proof
end

