-- ==== Sys2Proof/Decode.lean ====
section
/-! DEFINITION. The command word (30_encoding.md R82 to R90): its fields, the legality and readiness predicates,
the decoder, and the encoder. -/

namespace Sys2Proof

/-- Field Z, bits [31:16] (30_encoding.md R82). -/
def fieldZ (w : Word) : BitVec 16 := w.extractLsb' 16 16

/-- Field OP, bits [15:12] (30_encoding.md R82). -/
def fieldOp (w : Word) : BitVec 4 := w.extractLsb' 12 4

/-- Field CH, bits [11:8] (30_encoding.md R82). -/
def fieldCh (w : Word) : BitVec 4 := w.extractLsb' 8 4

/-- Field IMM, bits [7:0] (30_encoding.md R82). -/
def fieldImm (w : Word) : BitVec 8 := w.extractLsb' 0 8

/-- The legality predicate, case by case as 30_encoding.md R85 gives it. -/
def legal (cfg : Config) (w : Word) : Bool :=
  decide (fieldZ w = 0) &&
  match (fieldOp w).toNat with
  | 0x0 | 0x1 | 0x2 | 0x4 | 0x5 | 0x6 | 0x7 | 0x8 => decide (fieldCh w = 0 ∧ fieldImm w = 0)
  | 0x3 => decide (fieldCh w = 0 ∧ (fieldImm w).toNat ≤ cfg.n / 2)
  | 0x9 => decide ((fieldCh w).toNat < cfg.numCh ∧ (fieldImm w).toNat ≤ 1)
  | _ => false

/-- The readiness predicate on the operation field (30_encoding.md R89). -/
def needsReady (op : BitVec 4) : Bool :=
  decide (op.toNat = 0x1 ∨ op.toNat = 0x2 ∨ op.toNat = 0x3 ∨ op.toNat = 0x7)

/-- Why a word is illegal: the five cases of 30_encoding.md R86. -/
inductive DecodeError where
  /-- A non-zero bit in [31:16]. -/
  | upperBits
  /-- OP in 0xA..0xF. -/
  | reservedOp
  /-- A non-zero CH or IMM where the map gives 0. -/
  | unusedField
  /-- DFTB with k > N/2. -/
  | binOutOfRange
  /-- SETA with c ≥ NUM_CH or v > 1. -/
  | setaOutOfRange
deriving DecidableEq, Repr

/-- A command without operands: CH and IMM are 0 (30_encoding.md R84). -/
def decodePlain (w : Word) (i : Instr) : Except DecodeError Instr :=
  if fieldCh w = 0 ∧ fieldImm w = 0 then .ok i else .error .unusedField

/-- The decoder, total on every 32-bit word (30_encoding.md R84, R86, R88). -/
def decode (cfg : Config) (w : Word) : Except DecodeError Instr :=
  if fieldZ w ≠ 0 then .error .upperBits
  else match (fieldOp w).toNat with
  | 0x0 => decodePlain w .nop
  | 0x1 => decodePlain w .rel
  | 0x2 => decodePlain w .dft
  | 0x3 =>
    if fieldCh w ≠ 0 then .error .unusedField
    else if (fieldImm w).toNat ≤ cfg.n / 2 then .ok (.dftb (fieldImm w)) else .error .binOutOfRange
  | 0x4 => decodePlain w .fold
  | 0x5 => decodePlain w .map
  | 0x6 => decodePlain w .hyst
  | 0x7 => decodePlain w .frame
  | 0x8 => decodePlain w .hclr
  | 0x9 =>
    if (fieldCh w).toNat < cfg.numCh ∧ (fieldImm w).toNat ≤ 1 then .ok (.seta (fieldCh w) (fieldImm w))
    else .error .setaOutOfRange
  | _ => .error .reservedOp

/-- The operation field of a command (30_encoding.md R84). -/
def Instr.op : Instr → BitVec 4
  | .nop => 0x0
  | .rel => 0x1
  | .dft => 0x2
  | .dftb _ => 0x3
  | .fold => 0x4
  | .map => 0x5
  | .hyst => 0x6
  | .frame => 0x7
  | .hclr => 0x8
  | .seta _ _ => 0x9

/-- A command word from its fields, Z = 0 (30_encoding.md R82). -/
def commandWord (op ch : BitVec 4) (imm : BitVec 8) : Word := 0#16 ++ op ++ ch ++ imm

/-- The encoder (30_encoding.md R82, R84, R90). -/
def encode : Instr → Word
  | .nop => commandWord Instr.nop.op 0 0
  | .rel => commandWord Instr.rel.op 0 0
  | .dft => commandWord Instr.dft.op 0 0
  | .dftb k => commandWord (Instr.dftb k).op 0 k
  | .fold => commandWord Instr.fold.op 0 0
  | .map => commandWord Instr.map.op 0 0
  | .hyst => commandWord Instr.hyst.op 0 0
  | .frame => commandWord Instr.frame.op 0 0
  | .hclr => commandWord Instr.hclr.op 0 0
  | .seta c v => commandWord (Instr.seta c v).op c v

/-- The command that the decoder reads, under the default configuration, from the one 32-bit word whose low `nbits`
bits are `w`'s and whose other bits are 0; none where it refuses the word, or where `w` needs more than 32 bits. -/
def decodeTableWord (nbits w : Nat) : Option Instr :=
  if w % 2 ^ nbits < 2 ^ 32 then
    match decode Config.default (BitVec.ofNat 32 (w % 2 ^ nbits)) with
    | .ok i => some i
    | .error _ => none
  else none

end Sys2Proof
end

