-- ==== Sys2Proof/Machine/State.lean ====
section
/-! DEFINITION. The machine state (10_state.md R21), the reasons a step can stop, and the state after reset (R40). -/

namespace Sys2Proof.Machine

/-- The frame buffer (10_state.md R22), the one memory of the block: (slot, sample) pairs. A slot that is not listed
has no value: nothing has written it since reset (R41). -/
abbrev Memory := List (Nat × Int)

/-- The canonical form: slots strictly rising, so that equal buffers are equal lists. (An unlisted slot has no value,
so no entry can equal what an unlisted slot reads as.) -/
abbrev Memory.wf (m : Memory) : Prop := m.Pairwise fun a b => a.1 < b.1

/-- An output of a step: the step's trace of 00_scope.md R11, on the ports of 30_encoding.md R81. -/
inductive Emit where
  /-- `adc_start`: request one more conversion (40_acquisition.md R101). -/
  | adcStart
  /-- `bus_rdata`: the word a bus read returns (44_control.md R186). -/
  | busData (w : Word)
deriving DecidableEq, Repr

/-- Every piece of state of 10_state.md R21, the constant state of R35 and R36 (in `cfg`), and three fields of the
model's own: `agenda`, `tick` and `emits` (log entries 2, 4, 8, 13). -/
structure State where
  /-- The configuration: parameters, twiddle ROM, channel configuration. No step writes it (R35, R36). -/
  cfg : Config
  /-- FRAME[0..N-1] (R22). -/
  frame : Memory
  /-- count (R23). -/
  count : Nat
  /-- READY (R24). -/
  ready : Bool
  /-- REL_REQ (R25). -/
  relReq : Bool
  /-- CTRL.ACQ_EN (R26). -/
  acqEn : Bool
  /-- CTRL.AUTO (R27). -/
  auto : Bool
  /-- BUSY (R28). -/
  busy : Bool
  /-- PCMD (R28). -/
  pcmd : Word
  /-- ERR (R29). -/
  err : Bool
  /-- ERRCODE (R29). -/
  errcode : BitVec 4
  /-- POWER[0..NB-1] (R30). -/
  power : List Word
  /-- BUCKET[0..NBD] (R31). -/
  bucket : List Word
  /-- ACTIVE[0..NUM_CH-1] (R32). -/
  active : List Bool
  /-- HCNT[0..NUM_CH-1] (R33). -/
  hcnt : List Byte
  /-- OUT[0..NUM_CH-1] (R34), which the port ch_out carries (R39). -/
  out : List Bool
  /-- MODEL: the events the agents take next, oldest first. -/
  agenda : List Event
  /-- MODEL: how many steps were taken; indexes the free values. -/
  tick : Nat
  /-- MODEL: the outputs of the step that led here. -/
  emits : List Emit
deriving DecidableEq, Repr

/-- Why the machine stops with a fault. -/
inductive Fault where
  /-- The engine meets an illegal command: EXEC with a PCMD that is no legal word, or a meaning given operands out of
  range. Raised by `engineExec`, `execDftb` and `execSeta`. No reachable state raises it (44_control.md R185), and
  60_exceptions.md R211 lets a model fault here as an internal check. SAFE. -/
  | illegalPcmd
deriving DecidableEq, Repr

/-- Why a step is refused. -/
inductive Refusal where
  /-- An instruction without a meaning in this model. No arm of `exec` answers with it now. SAFE. -/
  | notModelled (mnemonic : String)
  /-- The configuration fails 00_scope.md R6, for which the spec builds no machine (60_exceptions.md R211). Raised by
  `step`. SAFE. -/
  | illFormedConfig
deriving DecidableEq, Repr

/-- The state after reset under a configuration: every component at its value of 10_state.md R40. PCMD, which R40
leaves unspecified, is 0 (DESIGN CHOICE, log entry 7); the frame buffer lists no slot (R41, log entry 6); the
trace holds the adc_start that reset puts out when AUTOSTART = 1 (70_reset_and_hazards.md R220); the agenda and the step
count start empty (DESIGN CHOICE, log entry 13). -/
def State.resetOf (cfg : Config) : State where
  cfg := cfg
  frame := []
  count := 0
  ready := false
  relReq := false
  acqEn := cfg.autostart
  auto := cfg.autostart
  busy := false
  pcmd := 0
  err := false
  errcode := 0
  power := List.replicate cfg.nb 0
  bucket := List.replicate cfg.nbk 0
  active := List.replicate cfg.numCh false
  hcnt := List.replicate cfg.numCh 0
  out := List.replicate cfg.numCh false
  agenda := []
  tick := 0
  emits := if cfg.autostart then [.adcStart] else []

/-- The machine right after reset, with the default configuration (00_scope.md R5; log entry 1). -/
def State.reset : State := State.resetOf Config.default

end Sys2Proof.Machine
end

