-- ==== Sys2Proof/Machine/Operands.lean ====
section
/-! DEFINITION. Operand forms: integer primitives, the sample port, the constant tables, the bus address. -/

namespace Sys2Proof.Machine

/-- floor_div(a, b), b > 0 (00_scope.md R10). -/
def floorDiv (a b : Int) : Int := a / b

/-- trunc_div(a, b), b > 0: rounding toward zero (00_scope.md R10). -/
def truncDiv (a b : Int) : Int := Int.tdiv a b

/-- asr(a, s): the arithmetic right shift (00_scope.md R10). -/
def asr (a : Int) (s : Nat) : Int := floorDiv a (2 ^ s)

/-- A signed value as a 32-bit word: sext_32 of 00_scope.md R9, for a value that fits. -/
def sext32 (v : Int) : Word := BitVec.ofInt 32 v

/-- An unsigned value as a 32-bit word: zext_32 of 00_scope.md R9, for a value that fits. -/
def zext32 (v : Nat) : Word := BitVec.ofNat 32 v

/-- Byte lane `i` of a word: bits 8i+7..8i, little-endian (20_memory.md R53). -/
def byteLane (w : Word) (i : Fin 4) : Byte := w.extractLsb' (8 * i.val) 8

/-- The sample on `adc_data`: its SB bits in two's complement, bias already removed (30_encoding.md R81; log entry 16). -/
def adcValue (cfg : Config) (data : BitVec 16) : Int := (data.setWidth cfg.sb).toInt

/-- TWIDDLE[j] (10_state.md R35). -/
def twiddleAt (cfg : Config) (j : Nat) : Int := cfg.twiddle.getD j 0

/-- SEL[c] (10_state.md R36). -/
def selAt (cfg : Config) (c : Nat) : Nat := cfg.sel.getD c 0

/-- THRESH[c] (10_state.md R36). -/
def threshAt (cfg : Config) (c : Nat) : Word := cfg.thresh.getD c 0

/-- A register of the map of 20_memory.md R54. -/
inductive Reg where
  | param0
  | param1
  | ctrl
  | status
  | cmd
  | outr
  | activer
  | chsel (c : Nat)
  | thresh (c : Nat)
  | hcnt (c : Nat)
  | power (k : Nat)
  | bucket (b : Nat)
  | framew (n : Nat)
  | twid (j : Nat)
  | reserved
deriving DecidableEq, Repr

/-- The word slot of an address: addr[11:2]; addr[1:0] is ignored (20_memory.md R52). -/
def slotOf (addr : Addr) : Nat := (addr.extractLsb' 2 10).toNat

/-- The register at a word slot (20_memory.md R54, byte address = 4 * slot). -/
def regAtSlot (i : Nat) : Reg :=
  if i = 0 then .param0
  else if i = 1 then .param1
  else if i = 2 then .ctrl
  else if i = 3 then .status
  else if i = 4 then .cmd
  else if i = 5 then .outr
  else if i = 6 then .activer
  else if i < 0x040 / 4 then .reserved
  else if i < 0x080 / 4 then .chsel (i - 0x040 / 4)
  else if i < 0x0C0 / 4 then .thresh (i - 0x080 / 4)
  else if i < 0x100 / 4 then .hcnt (i - 0x0C0 / 4)
  else if i < 0x200 / 4 then .power (i - 0x100 / 4)
  else if i < 0x300 / 4 then .bucket (i - 0x200 / 4)
  else if i < 0x400 / 4 then .framew (i - 0x300 / 4)
  else if i < 0x500 / 4 then .twid (i - 0x400 / 4)
  else .reserved

/-- The register an address reaches (20_memory.md R52, R54). -/
def regOf (addr : Addr) : Reg := regAtSlot (slotOf addr)

end Sys2Proof.Machine
end

