-- ==== Sys2Proof/Machine/Ops.lean ====
section
/-! DEFINITION. Named operations over the frame buffer and the registers; recording a command error, which is this
machine's only answer to misuse (60_exceptions.md R200, R202); the release of a frame. -/

namespace Sys2Proof.Machine

/-- The sample stored at slot `n`, none where nothing has written it since reset (10_state.md R41). -/
def Memory.read : Memory → Nat → Option Int
  | [], _ => none
  | (k, v) :: m, n => if k = n then some v else Memory.read m n

/-- Store a sample at slot `n`, keeping the slots strictly rising. -/
def Memory.write : Memory → Nat → Int → Memory
  | [], n, v => [(n, v)]
  | (k, u) :: m, n, v =>
    if n < k then (n, v) :: (k, u) :: m
    else if n = k then (n, v) :: m
    else (k, u) :: Memory.write m n v

/-- FRAME[n] as the engine and the frame window read it. A slot without a value gives a free value of SB bits
(10_state.md R41; log entry 6); no reachable step reads one. -/
def State.sampleAt (s : State) (n : Nat) : Int :=
  match s.frame.read n with
  | some v => v
  | none => adcValue s.cfg (Config.freeSample n)

/-- POWER[k] (10_state.md R30). -/
def State.powerAt (s : State) (k : Nat) : Word := s.power.getD k 0

/-- BUCKET[b] (10_state.md R31). -/
def State.bucketAt (s : State) (b : Nat) : Word := s.bucket.getD b 0

/-- ACTIVE[c] (10_state.md R32). -/
def State.activeAt (s : State) (c : Nat) : Bool := s.active.getD c false

/-- HCNT[c] (10_state.md R33). -/
def State.hcntAt (s : State) (c : Nat) : Byte := s.hcnt.getD c 0

/-- OUT[c] (10_state.md R34). -/
def State.outAt (s : State) (c : Nat) : Bool := s.out.getD c false

/-- The level on the output port: ch_out[c] = OUT[c] (10_state.md R39). -/
def State.chOut (s : State) (c : Nat) : Bool := s.outAt c

/-- `emit e`: append to the step's trace (00_scope.md R11). -/
def State.emit (s : State) (e : Emit) : State := { s with emits := s.emits ++ [e] }

/-- `if b then emit adc_start` (40_acquisition.md R101). -/
def State.emitStartIf (s : State) (b : Bool) : State := if b then s.emit .adcStart else s

/-- ERRCODE for a command written while BUSY = 1 (60_exceptions.md R201). -/
def errBusy : BitVec 4 := 1

/-- ERRCODE for an illegal command word (60_exceptions.md R201). -/
def errIllegal : BitVec 4 := 2

/-- ERRCODE for a command that needs READY while READY = 0 (60_exceptions.md R201). -/
def errNotReady : BitVec 4 := 3

/-- `raise Error(code)`: the first code since ERR was clear is kept (60_exceptions.md R202). -/
def State.raiseError (s : State) (code : BitVec 4) : State :=
  if s.err then s else { s with err := true, errcode := code }

/-- The function `release()` of REL and FRAME (40_acquisition.md R105). -/
def State.release (s : State) : State := { s with ready := false, relReq := true }

/-- A command word becomes pending: `PCMD <- w; BUSY <- 1` (44_control.md R180, R184). -/
def State.setPending (s : State) (w : Word) : State := { s with pcmd := w, busy := true }

/-- `BUSY <- 0` (44_control.md R181). -/
def State.setIdle (s : State) : State := { s with busy := false }

/-- `READY <- 1` (40_acquisition.md R103). -/
def State.raiseReady (s : State) : State := { s with ready := true }

/-- `count <- 0; REL_REQ <- 0` (40_acquisition.md R104). -/
def State.restart (s : State) : State := { s with count := 0, relReq := false }

/-- `ERR <- 0; ERRCODE <- 0` (20_memory.md R58). -/
def State.clearError (s : State) : State := { s with err := false, errcode := 0 }

/-- `CTRL.ACQ_EN <- d[0]; CTRL.AUTO <- d[1]` (20_memory.md R57). -/
def State.setCtrl (s : State) (d : Word) : State := { s with acqEn := d.getLsbD 0, auto := d.getLsbD 1 }

/-- SYNC_A2C is enabled (40_acquisition.md R103). -/
def State.a2cEnabled (s : State) : Bool := s.count == s.cfg.n && !s.relReq && !s.ready

/-- SYNC_C2A is enabled (40_acquisition.md R104). -/
def State.c2aEnabled (s : State) : Bool := s.relReq

/-- AUTOISSUE is enabled (44_control.md R184). -/
def State.autoEnabled (s : State) : Bool := s.auto && !s.busy && s.ready

end Sys2Proof.Machine
end

