-- ==== Sys2Proof/Machine/Flags.lean ====
section
/-! DEFINITION. The words the host reads flags through: STATUS, CTRL, PARAM0, PARAM1, OUTR, ACTIVER. The machine has no
condition flags (10_state.md R20). -/

namespace Sys2Proof.Machine

/-- A word whose bit c is the c-th flag, all other bits 0 (20_memory.md R60, R61). -/
def flagsWord (bits : List Bool) : Word := (BitVec.ofBoolListLE bits).setWidth 32

/-- PARAM0: MAX, NBD, NUM_CH and N, one byte each from the top (20_memory.md R55). -/
def param0Word (cfg : Config) : Word :=
  BitVec.ofNat 8 cfg.max ++ BitVec.ofNat 8 cfg.nbd ++ BitVec.ofNat 8 cfg.numCh ++ BitVec.ofNat 8 cfg.n

/-- PARAM1: AUTOSTART, ATTACK_MODE, SHIFT_POINT, SHIFT_MODE, F and SB (20_memory.md R56). -/
def param1Word (cfg : Config) : Word :=
  0#12 ++ BitVec.ofBool cfg.autostart ++ BitVec.ofBool (decide (cfg.attackMode = .loadMax)) ++
  BitVec.ofBool (decide (cfg.shiftPoint = .perSum)) ++ BitVec.ofBool (decide (cfg.shiftMode = .trunc)) ++
  0#3 ++ BitVec.ofNat 5 cfg.f ++ 0#3 ++ BitVec.ofNat 5 cfg.sb

/-- CTRL as it reads (20_memory.md R57). -/
def State.ctrlWord (s : State) : Word := 0#30 ++ BitVec.ofBool s.auto ++ BitVec.ofBool s.acqEn

/-- A draw from 0..N out of a draw of a whole word: every value of the range can come (00_scope.md R11; log entry 5). -/
def drawUpTo (draw : Word) (n : Nat) : Nat := draw.toNat % (n + 1)

/-- STATUS.FILL: count while READY or REL_REQ is 1, else a draw from 0..N (20_memory.md R58). -/
def State.fill (s : State) (draw : Word) : Nat :=
  if s.ready || s.relReq then s.count else drawUpTo draw s.cfg.n

/-- STATUS as it reads (20_memory.md R58). -/
def State.statusWord (s : State) (draw : Word) : Word :=
  0#17 ++ BitVec.ofNat 7 (s.fill draw) ++ s.errcode ++ BitVec.ofBool s.relReq ++ BitVec.ofBool s.err ++
  BitVec.ofBool s.busy ++ BitVec.ofBool s.ready

/-- OUTR as it reads, exact at every step (20_memory.md R60). -/
def State.outWord (s : State) : Word := flagsWord ((List.range s.cfg.numCh).map s.outAt)

/-- ACTIVER as it reads while BUSY = 0 (20_memory.md R61). -/
def State.activeWord (s : State) : Word := flagsWord ((List.range s.cfg.numCh).map s.activeAt)

end Sys2Proof.Machine
end

