-- ==== Sys2Proof/Machine/Bus.lean ====
section
/-! DEFINITION. The host's bus steps RD and WR, and the issue of a command (20_memory.md, 44_control.md R180, R186, R187). -/

namespace Sys2Proof.Machine

/-- `if BUSY = 1 then draw(u32)`, for the result windows (20_memory.md R61, R64, R65, R66). -/
def State.whileIdle (s : State) (draw exact : Word) : Word := if s.busy then draw else exact

/-- The word a read of a register returns; `draw` is the draw its rule names, if any (20_memory.md R55 to R69). -/
def State.readReg (s : State) (draw : Word) : Reg → Word
  | .param0 => param0Word s.cfg
  | .param1 => param1Word s.cfg
  | .ctrl => s.ctrlWord
  | .status => s.statusWord draw
  | .cmd => 0
  | .outr => s.outWord
  | .activer => s.whileIdle draw s.activeWord
  | .chsel c => if c < s.cfg.numCh then zext32 (selAt s.cfg c) else 0
  | .thresh c => if c < s.cfg.numCh then threshAt s.cfg c else 0
  | .hcnt c => s.whileIdle draw (if c < s.cfg.numCh then zext32 (s.hcntAt c).toNat else 0)
  | .power k => s.whileIdle draw (if k < s.cfg.nb then s.powerAt k else 0)
  | .bucket b => s.whileIdle draw (if b ≤ s.cfg.nbd then s.bucketAt b else 0)
  | .framew n => if s.cfg.n ≤ n then 0 else if s.ready then sext32 (s.sampleAt n) else draw
  | .twid j => if j < s.cfg.n then sext32 (twiddleAt s.cfg j) else 0
  | .reserved => 0

/-- RD addr: the word goes out on bus_rdata, and no state changes (44_control.md R186; 20_memory.md R70). -/
def busRead (addr : Addr) (s : State) : State :=
  s.emit (.busData (s.readReg (Config.freeWord s.tick) (regOf addr)))

/-- A write of d to CTRL (20_memory.md R57). -/
def writeCtrl (d : Word) (s : State) : State :=
  (s.setCtrl d).emitStartIf
    (!s.acqEn && d.getLsbD 0 && decide (s.count < s.cfg.n) && !s.relReq)

/-- A write of d to STATUS: bit 2 clears ERR and ERRCODE (20_memory.md R58). -/
def writeStatus (d : Word) (s : State) : State :=
  if d.getLsbD 2 then s.clearError else s

/-- issue(w): BUSY, then ILLEGAL, then NOTREADY, else the command becomes pending (44_control.md R180; 60_exceptions.md R203). -/
def issue (w : Word) (s : State) : State :=
  if s.busy then s.raiseError errBusy
  else if !legal s.cfg w then s.raiseError errIllegal
  else if needsReady (fieldOp w) && !s.ready then s.raiseError errNotReady
  else s.setPending w

/-- A write of d to a register: only CTRL, STATUS and CMD react (20_memory.md R69; 44_control.md R187). -/
def writeReg (d : Word) (s : State) : Reg → State
  | .param0 => s
  | .param1 => s
  | .ctrl => writeCtrl d s
  | .status => writeStatus d s
  | .cmd => issue d s
  | .outr => s
  | .activer => s
  | .chsel _ => s
  | .thresh _ => s
  | .hcnt _ => s
  | .power _ => s
  | .bucket _ => s
  | .framew _ => s
  | .twid _ => s
  | .reserved => s

/-- WR addr, d (44_control.md R187). -/
def busWrite (addr : Addr) (d : Word) (s : State) : State := writeReg d s (regOf addr)

end Sys2Proof.Machine
end

