-- ==== Sys2Proof/Machine/Acquisition.lean ====
section
/-! DEFINITION. Sample acquisition, the ready-flag synchronizer, and REL (40_acquisition.md). -/

namespace Sys2Proof.Machine

/-- `FRAME[count] <- v; count <- count + 1` (40_acquisition.md R100). -/
def State.storeSample (s : State) (v : Int) : State := { s with frame := s.frame.write s.count v, count := s.count + 1 }

/-- SAMPLE v: stored while ACQ_EN = 1 and count < N, with adc_start unless the frame just became full; dropped without a
trace otherwise (40_acquisition.md R100, R102). -/
def sampleEvent (data : BitVec 16) (s : State) : State :=
  if s.acqEn = true ∧ s.count < s.cfg.n then
    (s.storeSample (adcValue s.cfg data)).emitStartIf (decide (s.count + 1 < s.cfg.n))
  else s

/-- SYNC_A2C: `READY <- 1` where enabled (40_acquisition.md R103); no step where it is not (log entry 2). -/
def syncA2C (s : State) : State := if s.a2cEnabled then s.raiseReady else s

/-- SYNC_C2A: `count <- 0; REL_REQ <- 0`, and adc_start while ACQ_EN = 1, where enabled (40_acquisition.md R104); no
step where it is not (log entry 2). -/
def syncC2A (s : State) : State :=
  if s.c2aEnabled then s.restart.emitStartIf s.acqEn else s

/-- REL (40_acquisition.md R105). -/
def execRel (s : State) : Host.Outcome State Fault Refusal := .next s.release

end Sys2Proof.Machine
end

