-- ==== Sys2Proof/Machine/Hysteresis.lean ====
section
/-! DEFINITION. The hysteresis bank: HYST, HCLR (43_hysteresis.md). -/

namespace Sys2Proof.Machine

/-- The counter after an active frame (43_hysteresis.md R160, R161). -/
def attack (cfg : Config) (cnt : Byte) : Byte :=
  match cfg.attackMode with
  | .inc1 => BitVec.ofNat 8 (min (cnt.toNat + 1) cfg.max)
  | .loadMax => BitVec.ofNat 8 cfg.max

/-- hstep(a, cnt, o) gives (cnt', o'); the next output never depends on o (43_hysteresis.md R160). -/
def hstep (cfg : Config) (a : Bool) (cnt : Byte) (_o : Bool) : Byte × Bool :=
  if a then (attack cfg cnt, true)
  else if 0 < cnt.toNat then (cnt - 1, true)
  else (0, false)

/-- hstep on channel c of the state: it reads only channel c (43_hysteresis.md R162). -/
def State.hstepAt (s : State) (c : Nat) : Byte × Bool := hstep s.cfg (s.activeAt c) (s.hcntAt c) (s.outAt c)

/-- The function `hyst_all()` (43_hysteresis.md R162). -/
def State.hystAll (s : State) : State :=
  { s with
    hcnt := (List.range s.cfg.numCh).map fun c => (s.hstepAt c).1
    out := (List.range s.cfg.numCh).map fun c => (s.hstepAt c).2 }

/-- HYST (43_hysteresis.md R162). -/
def execHyst (s : State) : Host.Outcome State Fault Refusal := .next s.hystAll

/-- The function `hclr()` (43_hysteresis.md R163). -/
def State.clearBank (s : State) : State :=
  { s with hcnt := List.replicate s.cfg.numCh 0, out := List.replicate s.cfg.numCh false }

/-- HCLR (43_hysteresis.md R163). -/
def execHclr (s : State) : Host.Outcome State Fault Refusal := .next s.clearBank

end Sys2Proof.Machine
end

