-- ==== Sys2Proof/Machine/BandMapper.lean ====
section
/-! DEFINITION. Bin aggregation and the threshold comparator: FOLD, MAP, SETA (42_band_mapper.md). -/

namespace Sys2Proof.Machine

/-- The residual sum over k in NBD..N/2, empty when NBD = N/2 + 1 (42_band_mapper.md R140). -/
def State.residual (s : State) : Nat :=
  ((List.range' s.cfg.nbd (s.cfg.nb - s.cfg.nbd)).map fun k => (s.powerAt k).toNat).sum

/-- The function `fold()` (42_band_mapper.md R140). -/
def State.foldBuckets (s : State) : State :=
  { s with bucket := (List.range s.cfg.nbd).map s.powerAt ++ [zext32 s.residual] }

/-- FOLD (42_band_mapper.md R141). -/
def execFold (s : State) : Host.Outcome State Fault Refusal := .next s.foldBuckets

/-- active(c): an unsigned, strict comparison, the same for every channel (42_band_mapper.md R143, R146). -/
def State.comparator (s : State) (c : Nat) : Bool :=
  decide ((threshAt s.cfg c).toNat < (s.bucketAt (selAt s.cfg c)).toNat)

/-- The function `map_all()` (42_band_mapper.md R144). -/
def State.mapAll (s : State) : State := { s with active := (List.range s.cfg.numCh).map s.comparator }

/-- MAP (42_band_mapper.md R144). -/
def execMap (s : State) : Host.Outcome State Fault Refusal := .next s.mapAll

/-- `ACTIVE[c] <- v` (42_band_mapper.md R145). -/
def State.setActive (s : State) (c : Nat) (v : Bool) : State := { s with active := s.active.set c v }

/-- SETA c, v (42_band_mapper.md R145). Operands out of the ranges of 30_encoding.md R83 reach no reachable EXEC; the
model faults there (60_exceptions.md R211; log entry 11). -/
def execSeta (c : BitVec 4) (v : BitVec 8) (s : State) : Host.Outcome State Fault Refusal :=
  if c.toNat < s.cfg.numCh ∧ v.toNat ≤ 1 then .next (s.setActive c.toNat (decide (v.toNat = 1)))
  else .fault .illegalPcmd

end Sys2Proof.Machine
end

