-- ==== Sys2Proof/Machine/Spectral.lean ====
section
/-! DEFINITION. The spectral engine: DFT, DFTB (41_spectral.md). All arithmetic is on mathematical integers
(00_scope.md R7, R9); a power is narrowed to 32 bits where it is stored. -/

namespace Sys2Proof.Machine

/-- cp(k, n) (41_spectral.md R122). -/
def cosPhase (cfg : Config) (k n : Nat) : Nat := (k * n) % cfg.n

/-- sp(k, n) (41_spectral.md R122). -/
def sinPhase (cfg : Config) (k n : Nat) : Nat := (3 * cfg.n / 4 + k * n) % cfg.n

/-- sh(p): the scaling shift (41_spectral.md R123). -/
def shift (cfg : Config) (p : Int) : Int :=
  match cfg.shiftMode with
  | .floor => asr p cfg.f
  | .trunc => truncDiv p (2 ^ cfg.f)

/-- The loop `acc <- 0; for n in 0 .. m-1: acc <- acc + f n`: its accumulator after m rounds. -/
def accumulate (f : Nat → Int) : Nat → Int
  | 0 => 0
  | m + 1 => accumulate f m + f m

/-- The exact product FRAME[n] * TWIDDLE[phase n] (41_spectral.md R124). -/
def product (cfg : Config) (x : Nat → Int) (phase : Nat → Nat) (n : Nat) : Int := x n * twiddleAt cfg (phase n)

/-- One accumulator of corr(k): the shifted products summed, or their sum shifted (41_spectral.md R124). -/
def correlate (cfg : Config) (x : Nat → Int) (phase : Nat → Nat) : Int :=
  match cfg.shiftPoint with
  | .perProduct => accumulate (fun n => shift cfg (product cfg x phase n)) cfg.n
  | .perSum => shift cfg (accumulate (product cfg x phase) cfg.n)

/-- re of corr(k) (41_spectral.md R124). -/
def corrRe (cfg : Config) (x : Nat → Int) (k : Nat) : Int := correlate cfg x (cosPhase cfg k)

/-- im of corr(k): the sine products are subtracted (41_spectral.md R124). -/
def corrIm (cfg : Config) (x : Nat → Int) (k : Nat) : Int := -correlate cfg x (sinPhase cfg k)

/-- power(k) (41_spectral.md R125). -/
def binPower (cfg : Config) (x : Nat → Int) (k : Nat) : Int :=
  floorDiv (corrRe cfg x k * corrRe cfg x k + corrIm cfg x k * corrIm cfg x k) (cfg.n * cfg.n)

/-- power(k) of the frame as POWER[k] stores it; by 41_spectral.md R126 the 32 bits hold it exactly (log entry 12). -/
def State.powerWord (s : State) (k : Nat) : Word := zext32 (binPower s.cfg s.sampleAt k).toNat

/-- `for k in 0 .. N/2: POWER[k] <- power(k)` (41_spectral.md R127). -/
def State.dftBins (s : State) : State := { s with power := (List.range s.cfg.nb).map s.powerWord }

/-- The function `dft_all()`: every bin, then the fold (41_spectral.md R127). -/
def State.dftAll (s : State) : State := s.dftBins.foldBuckets

/-- DFT (41_spectral.md R127). -/
def execDft (s : State) : Host.Outcome State Fault Refusal := .next s.dftAll

/-- `POWER[k] <- power(k)` (41_spectral.md R128). -/
def State.dftBin (s : State) (k : Nat) : State := { s with power := s.power.set k (s.powerWord k) }

/-- DFTB k: POWER[k] only (41_spectral.md R128). A k above N/2 reaches no reachable EXEC; the model faults there
(60_exceptions.md R211; log entry 11). -/
def execDftb (k : BitVec 8) (s : State) : Host.Outcome State Fault Refusal :=
  if k.toNat ≤ s.cfg.n / 2 then .next (s.dftBin k.toNat)
  else .fault .illegalPcmd

end Sys2Proof.Machine
end

