-- ==== Sys2Proof/Machine/Control.lean ====
section
/-! DEFINITION. NOP and FRAME (44_control.md R182, R183). -/

namespace Sys2Proof.Machine

/-- NOP: no state change (44_control.md R182). -/
def execNop (s : State) : Host.Outcome State Fault Refusal := .next s

/-- FRAME: engine, mapper, bank, release, in this order within one atomic step (44_control.md R183). -/
def execFrame (s : State) : Host.Outcome State Fault Refusal := .next s.dftAll.mapAll.hystAll.release

end Sys2Proof.Machine
end

