-- ==== Sys2Proof/Machine/Dispatch.lean ====
section
/-! DEFINITION. The dispatch function `execute` (44_control.md R185): one arm per command. -/

namespace Sys2Proof.Machine

def exec (i : Instr) (s : State) : Host.Outcome State Fault Refusal :=
  match i with
  | .nop => Sys2Proof.Machine.execNop s
  | .rel => Sys2Proof.Machine.execRel s
  | .dft => Sys2Proof.Machine.execDft s
  | .dftb k => Sys2Proof.Machine.execDftb k s
  | .fold => Sys2Proof.Machine.execFold s
  | .map => Sys2Proof.Machine.execMap s
  | .hyst => Sys2Proof.Machine.execHyst s
  | .frame => Sys2Proof.Machine.execFrame s
  | .hclr => Sys2Proof.Machine.execHclr s
  | .seta c v => Sys2Proof.Machine.execSeta c v s

end Sys2Proof.Machine
end

