-- ==== Sys2Proof/Machine/Agents.lean ====
section
/-! DEFINITION. The steps of the four agents and of reset (00_scope.md R13; 30_encoding.md R80), and which one is next. -/

namespace Sys2Proof.Machine

/-- `BUSY <- 0` after a command that gave a next state (44_control.md R181). -/
def finish : Host.Outcome State Fault Refusal → Host.Outcome State Fault Refusal
  | .next s => .next s.setIdle
  | .fault f => .fault f
  | .refused r => .refused r

/-- EXEC: `execute(PCMD); BUSY <- 0` where BUSY = 1 (44_control.md R181); no step where BUSY = 0 (log entry 2). An
illegal PCMD, which no reachable state holds, faults (44_control.md R185; 60_exceptions.md R211). -/
def engineExec (s : State) : Host.Outcome State Fault Refusal :=
  if s.busy then
    match decode s.cfg s.pcmd with
    | .ok i => finish (exec i s)
    | .error _ => .fault .illegalPcmd
  else .next s

/-- The word of FRAME that AUTOISSUE makes pending (44_control.md R184). -/
def autoWord : Word := 0x00007000

/-- AUTOISSUE: `PCMD <- 0x00007000; BUSY <- 1` where enabled (44_control.md R184); no step where not (log entry 2). -/
def autoIssue (s : State) : State := if s.autoEnabled then s.setPending autoWord else s

/-- The reset event: every component at its value of 10_state.md R40, the configuration untouched, and adc_start when
AUTOSTART = 1 (70_reset_and_hazards.md R220). The environment's schedule goes on (log entry 13). -/
def resetEvent (s : State) : State :=
  { State.resetOf s.cfg with agenda := s.agenda, tick := s.tick }

/-- One step of one agent. -/
def perform (e : Event) (s : State) : Host.Outcome State Fault Refusal :=
  match e with
  | .busRead addr => .next (busRead addr s)
  | .busWrite addr d => .next (busWrite addr d s)
  | .sample data => .next (sampleEvent data s)
  | .syncA2C => .next (syncA2C s)
  | .syncC2A => .next (syncC2A s)
  | .exec => engineExec s
  | .autoIssue => .next (autoIssue s)
  | .reset => .next (resetEvent s)

/-- The event of the next step: the agenda's first, or a free choice where the agenda is empty: any agent may be next
(00_scope.md R13; log entry 2). -/
def State.nextEvent (s : State) : Event :=
  match s.agenda with
  | e :: _ => e
  | [] => Config.freeEvent s.tick

/-- The model's own bookkeeping before an event: the agenda moves on, the step is counted, the trace starts empty. -/
def State.advance (s : State) : State := { s with agenda := s.agenda.tail, tick := s.tick + 1, emits := [] }

/-- One step of a machine whose configuration is well formed; any other is refused (00_scope.md R6; 60_exceptions.md R211). -/
def stepAny (s : State) : Host.Outcome State Fault Refusal :=
  if s.cfg.wf then perform s.nextEvent s.advance else .refused .illFormedConfig

/-- The state with a command word pending and EXEC next: what an issue of that word leaves, with no check of the word
(44_control.md R180, R181; log entry 9). -/
def State.withPending (s : State) (w : Word) : State := { s with pcmd := w, busy := true, agenda := .exec :: s.agenda }

end Sys2Proof.Machine
end

