-- ==== Sys2Proof/Machine/Step.lean ====
section
/-! DEFINITION. The step of the machine, and how a command is placed where the next step runs it. -/

namespace Sys2Proof.Machine

/-- One atomic step of one agent (00_scope.md R2, R13). -/
def step (s : State) : Host.Outcome State Fault Refusal := stepAny s

/-- `s` with the word of the low `nbits` bits of `w` pending, so that the very next step is its EXEC (log entry 9). -/
def State.withFetchWord (s : State) (nbits w : Nat) : State := s.withPending (BitVec.ofNat 32 (w % 2 ^ nbits))

end Sys2Proof.Machine
end

