-- ==== Sys2Proof/Machine/Script.lean ====
section
/-! DEFINITION. The command assembler (30_encoding.md R90), and the base and pseudo operations of host scripts and traces
(R91, R92) as events. -/

namespace Sys2Proof.Machine

/-- The value of a decimal digit. -/
def decDigit (c : Char) : Option Nat :=
  if '0'.toNat ≤ c.toNat ∧ c.toNat ≤ '9'.toNat then some (c.toNat - '0'.toNat) else none

/-- The value of a hexadecimal digit, either case. -/
def hexDigit (c : Char) : Option Nat :=
  if 'a'.toNat ≤ c.toNat ∧ c.toNat ≤ 'f'.toNat then some (c.toNat - 'a'.toNat + 10)
  else if 'A'.toNat ≤ c.toNat ∧ c.toNat ≤ 'F'.toNat then some (c.toNat - 'A'.toNat + 10)
  else decDigit c

/-- The digits of a number onto an accumulator, in a base. -/
def digits (base : Nat) (digit : Char → Option Nat) : List Char → Nat → Option Nat
  | [], acc => some acc
  | c :: cs, acc =>
    match digit c with
    | some d => digits base digit cs (acc * base + d)
    | none => none

/-- An operand, in decimal or 0x-hexadecimal (30_encoding.md R90). -/
def parseNumber : List Char → Option Nat
  | '0' :: 'x' :: c :: cs => digits 16 hexDigit (c :: cs) 0
  | c :: cs => digits 10 decDigit (c :: cs) 0
  | [] => none

/-- A text without its leading blanks. -/
def trimLeft : List Char → List Char
  | [] => []
  | c :: cs => if c = ' ' then trimLeft cs else c :: cs

/-- A text without the blanks around it. -/
def trim (cs : List Char) : List Char := (trimLeft (trimLeft cs).reverse).reverse

/-- The text before the first character `sep`, and the text after it if there is one. -/
def splitAt (sep : Char) : List Char → List Char × Option (List Char)
  | [] => ([], none)
  | c :: cs => if c = sep then ([], some cs) else (c :: (splitAt sep cs).1, (splitAt sep cs).2)

/-- A command without operands, by its mnemonic (30_encoding.md R90). -/
def plainCommand (m : List Char) : Option Instr :=
  if m = ['N', 'O', 'P'] then some .nop
  else if m = ['R', 'E', 'L'] then some .rel
  else if m = ['D', 'F', 'T'] then some .dft
  else if m = ['F', 'O', 'L', 'D'] then some .fold
  else if m = ['M', 'A', 'P'] then some .map
  else if m = ['H', 'Y', 'S', 'T'] then some .hyst
  else if m = ['F', 'R', 'A', 'M', 'E'] then some .frame
  else if m = ['H', 'C', 'L', 'R'] then some .hclr
  else none

/-- `DFTB k` with k of eight bits (30_encoding.md R83, R90). -/
def dftbOf (k : Nat) : Option Instr := if k < 2 ^ 8 then some (.dftb (BitVec.ofNat 8 k)) else none

/-- `SETA c, v` with c of four bits and v of eight (30_encoding.md R83, R90). -/
def setaOf (c v : Nat) : Option Instr :=
  if c < 2 ^ 4 ∧ v < 2 ^ 8 then some (.seta (BitVec.ofNat 4 c) (BitVec.ofNat 8 v)) else none

/-- A command from its mnemonic and the text of its operands, operand ranges not yet checked (30_encoding.md R90). -/
def commandOf (m operands : List Char) : Option Instr :=
  if m = ['D', 'F', 'T', 'B'] then
    match parseNumber operands with
    | some k => dftbOf k
    | none => none
  else if m = ['S', 'E', 'T', 'A'] then
    match splitAt ',' operands with
    | (c, some v) =>
      match parseNumber (trim c), parseNumber (trim v) with
      | some c, some v => setaOf c v
      | _, _ => none
    | (_, none) => none
  else if operands = [] then plainCommand m
  else none

/-- One line of assembler text as a command (30_encoding.md R90; log entry 17). -/
def parseLine (line : List Char) : Option Instr :=
  match splitAt ' ' (trim line) with
  | (m, some rest) => commandOf m (trim rest)
  | (m, none) => commandOf m []

/-- The word of a command, none where an operand is outside its range (30_encoding.md R90). -/
def assemble (cfg : Config) (i : Instr) : Option Word := if i.wf cfg then some (encode i) else none

/-- The command assembler on one line (30_encoding.md R90). -/
def assembleLine (cfg : Config) (line : List Char) : Option Word :=
  match parseLine line with
  | some i => assemble cfg i
  | none => none

/-- `CMD <command>` is `WR 0x010, <word>` (30_encoding.md R91). -/
def cmdEvent (i : Instr) : Event := .busWrite 0x010 (encode i)

/-- The read that `POLL 0x00C` of WAITREADY and WAITIDLE repeats (30_encoding.md R91). -/
def pollStatus : Event := .busRead 0x00C

/-- When `POLL a, m, v` ends, for the word t it read (30_encoding.md R91). -/
def pollDone (m v t : Word) : Bool := decide (t &&& m = v)

/-- WAITREADY has its answer (30_encoding.md R91). -/
def readySeen (t : Word) : Bool := pollDone 0x1 0x1 t

/-- WAITIDLE has its answer (30_encoding.md R91). -/
def idleSeen (t : Word) : Bool := pollDone 0x2 0x0 t

/-- `CLRERR` (30_encoding.md R91). -/
def clrErrEvent : Event := .busWrite 0x00C 0x4

/-- `ENABLE`: ACQ_EN = 1, AUTO = 0 (30_encoding.md R91; 70_reset_and_hazards.md R223). -/
def enableEvent : Event := .busWrite 0x008 0x1

/-- `ENABLE_AUTO`: ACQ_EN = 1, AUTO = 1 (30_encoding.md R91; 70_reset_and_hazards.md R223). -/
def enableAutoEvent : Event := .busWrite 0x008 0x3

/-- `DISABLE` (30_encoding.md R91). -/
def disableEvent : Event := .busWrite 0x008 0x0

/-- An operation of a host script: the base operations RD and WR, and the loop POLL (30_encoding.md R91). -/
inductive HostOp where
  /-- `RD addr`. -/
  | read (addr : Addr)
  /-- `WR addr, d`. -/
  | write (addr : Addr) (data : Word)
  /-- `POLL a, m, v`: repeat `RD a -> t` until `(t & m) = v`. -/
  | poll (addr : Addr) (mask value : Word)
deriving DecidableEq, Repr

/-- The bus step that an operation takes, or takes once more (30_encoding.md R91). -/
def HostOp.event : HostOp → Event
  | .read addr => .busRead addr
  | .write addr data => .busWrite addr data
  | .poll addr _ _ => .busRead addr

/-- Whether a word on the bus ends `POLL a, m, v` (30_encoding.md R91). -/
def Emit.endsPoll (m v : Word) : Emit → Bool
  | .busData t => pollDone m v t
  | .adcStart => false

/-- Whether an operation is over after its bus step put these outputs out: RD and WR take one step (30_encoding.md R91). -/
def HostOp.ends (out : List Emit) : HostOp → Bool
  | .read _ => true
  | .write _ _ => true
  | .poll _ m v => out.any (Emit.endsPoll m v)

/-- `CMD <command>` as an operation of a script (30_encoding.md R91). -/
def cmdOp (i : Instr) : HostOp := .write 0x010 (encode i)

/-- `WAITREADY` (30_encoding.md R91). -/
def waitReadyOp : HostOp := .poll 0x00C 0x1 0x1

/-- `WAITIDLE` (30_encoding.md R91). -/
def waitIdleOp : HostOp := .poll 0x00C 0x2 0x0

/-- `CMDW <command>` (30_encoding.md R91). -/
def cmdwOps (i : Instr) : List HostOp := [waitIdleOp, cmdOp i]

/-- The source's main loop for one frame, by four commands (44_control.md R190). -/
def fourCommandOps : List HostOp :=
  [waitReadyOp, cmdOp .dft, waitIdleOp, cmdOp .map, waitIdleOp, cmdOp .hyst, waitIdleOp, cmdOp .rel, waitIdleOp]

/-- The source's main loop for one frame, by FRAME (44_control.md R190). -/
def frameOps : List HostOp := [waitReadyOp, cmdOp .frame, waitIdleOp]

/-- `SAMPLES [v0, ..., ]`: one SAMPLE per value, in order (30_encoding.md R92). -/
def sampleEvents (vs : List Int) : List Event := vs.map fun v => .sample (BitVec.ofInt 16 v)

end Sys2Proof.Machine
end

