-- ==== Sys2Proof/Safety.lean ====
section
/-! DEFINITION. What counts as a good state and a good run of SPECTRUM-CORE, in the terms the statements use: the
invariants of 10_state.md R37 and R38 and the others the rules give, quiescence (44_control.md R188), and command
sequences. -/

namespace Sys2Proof.Machine

/-- The registers have the lengths of 10_state.md R21. -/
abbrev State.shape (s : State) : Prop :=
  s.power.length = s.cfg.nb ∧ s.bucket.length = s.cfg.nbk ∧ s.active.length = s.cfg.numCh ∧
  s.hcnt.length = s.cfg.numCh ∧ s.out.length = s.cfg.numCh

/-- The frame buffer is canonical, its slots are below N, and every listed sample is in SMIN..SMAX (10_state.md R22). -/
abbrev State.frameOk (s : State) : Prop :=
  s.frame.wf ∧ ∀ e ∈ s.frame, e.1 < s.cfg.n ∧ s.cfg.smin ≤ e.2 ∧ e.2 ≤ s.cfg.smax

/-- Every slot below the fill counter has a value (10_state.md R22, R41). -/
abbrev State.filledOk (s : State) : Prop := ∀ n < s.count, (s.frame.read n).isSome = true

/-- The handoff invariants of 10_state.md R37, with the range of count (R23). -/
abbrev State.handoff (s : State) : Prop :=
  s.count ≤ s.cfg.n ∧ (s.ready = true → s.count = s.cfg.n ∧ s.relReq = false) ∧
  (s.relReq = true → s.count = s.cfg.n ∧ s.ready = false) ∧
  (s.count < s.cfg.n → s.ready = false ∧ s.relReq = false)

/-- The hysteresis invariants of 10_state.md R38. -/
abbrev State.bankOk (s : State) : Prop :=
  ∀ c < s.cfg.numCh, (s.hcntAt c).toNat ≤ s.cfg.max ∧ (0 < (s.hcntAt c).toNat → s.outAt c = true)

/-- ERRCODE is 0 exactly while ERR = 0, and is one of the codes of 60_exceptions.md R201 (10_state.md R29). -/
abbrev State.errorOk (s : State) : Prop := (s.errcode = 0 ↔ s.err = false) ∧ s.errcode.toNat ≤ 3

/-- A pending command is legal, and READY = 1 if it needs it (44_control.md R181, R185; 40_acquisition.md R107). -/
abbrev State.pendingOk (s : State) : Prop :=
  s.busy = true → legal s.cfg s.pcmd = true ∧ (needsReady (fieldOp s.pcmd) = true → s.ready = true)

/-- Every stored power is within the bound of 41_spectral.md R126. -/
abbrev State.powerOk (s : State) : Prop := ∀ k < s.cfg.nb, (s.powerAt k).toNat ≤ s.cfg.powerBound

/-- The invariant of the machine. -/
abbrev State.Inv (s : State) : Prop :=
  s.cfg.wf ∧ s.shape ∧ s.frameOk ∧ s.filledOk ∧ s.handoff ∧ s.bankOk ∧ s.errorOk ∧ s.pendingOk ∧ s.powerOk

/-- The state without the model's own fields: what 10_state.md R21 calls the machine state, and the constant state. -/
def State.architectural (s : State) : State := { s with agenda := [], tick := 0, emits := [] }

/-- The next step is the engine's, and it runs command `i` (44_control.md R181). -/
abbrev State.executes (s : State) (i : Instr) : Prop :=
  s.nextEvent = .exec ∧ s.busy = true ∧ decode s.cfg s.pcmd = .ok i

/-- The next step is a host write that reaches register `r` with word `d` (44_control.md R187). -/
abbrev State.writes (s : State) (r : Reg) (d : Word) : Prop :=
  ∃ addr, s.nextEvent = .busWrite addr d ∧ regOf addr = r

/-- The internal step `e` is enabled (40_acquisition.md R103, R104; 44_control.md R181, R184). -/
def State.internalEnabled (s : State) : Event → Bool
  | .syncA2C => s.a2cEnabled
  | .syncC2A => s.c2aEnabled
  | .exec => s.busy
  | .autoIssue => s.autoEnabled
  | .busRead _ => false
  | .busWrite _ _ => false
  | .sample _ => false
  | .reset => false

/-- A quiescent state, by the formula of 44_control.md R188. -/
abbrev State.quiescent (s : State) : Prop :=
  s.busy = false ∧ ¬(s.count = s.cfg.n ∧ s.relReq = false ∧ s.ready = false) ∧ s.relReq = false ∧
  ¬(s.auto = true ∧ s.ready = true)

/-- How far the frame in hand is from acquisition again: full, ready, being released, filling. -/
def State.handoffStage (s : State) : Nat :=
  bif s.relReq then 1 else bif s.ready then 2 else bif s.count == s.cfg.n then 3 else 0

/-- The pending word is REL or FRAME, the two commands that release the frame (40_acquisition.md R105). -/
def releases (w : Word) : Bool := decide (fieldOp w = 0x1 ∨ fieldOp w = 0x7)

/-- Four per stage of the handoff, and what the engine still owes: a bound on the internal steps that can follow
(44_control.md R188). -/
def State.internalWork (s : State) : Nat :=
  4 * s.handoffStage +
  (bif s.busy then (bif releases s.pcmd then 1 else 3) else bif s.auto && s.ready then 2 else 0)

/-- Commands one after the other, each as `execute` of 44_control.md R185, stopping at the first that gives no state. -/
def runCommands : List Instr → State → Host.Outcome State Fault Refusal
  | [], s => .next s
  | i :: is, s =>
    match exec i s with
    | .next t => runCommands is t
    | .fault f => .fault f
    | .refused r => .refused r

/-- `k` steps, stopping at the first that gives no state. -/
def runSteps : Nat → State → Host.Outcome State Fault Refusal
  | 0, s => .next s
  | k + 1, s =>
    match step s with
    | .next t => runSteps k t
    | .fault f => .fault f
    | .refused r => .refused r

/-- The state with a given schedule for the next steps (30_encoding.md R92). -/
def State.withAgenda (s : State) (es : List Event) : State := { s with agenda := es }

/-- A run: the states `ρ` that the infinite schedule `σ` passes through, one step of one agent at a time (00_scope.md R13;
44_control.md R188). -/
abbrev IsRun (σ : Nat → Event) (ρ : Nat → State) : Prop := ∀ k, step ((ρ k).withAgenda [σ k]) = .next (ρ (k + 1))

/-- Weak fairness of the SYNC and ENGINE steps: one that stays enabled is eventually taken (00_scope.md R14). HOST and ADC
steps are never `internalEnabled`, so they owe none. -/
abbrev WeaklyFair (σ : Nat → Event) (ρ : Nat → State) : Prop :=
  ∀ (e : Event) (k : Nat), (∀ j, k ≤ j → (ρ j).internalEnabled e = true) → ∃ j, k ≤ j ∧ σ j = e

/-- The ADC's duty: after an adc_start, eventually a SAMPLE (44_control.md R189). -/
abbrev AdcDuty (σ : Nat → Event) (ρ : Nat → State) : Prop :=
  ∀ k, .adcStart ∈ (ρ k).emits → ∃ j data, k ≤ j ∧ σ j = .sample data

/-- At state `k` of a run an adc_start is out that no SAMPLE has answered (40_acquisition.md R101; 44_control.md R189). -/
abbrev AdcOwes (σ : Nat → Event) (ρ : Nat → State) (k : Nat) : Prop :=
  ∃ i, i ≤ k ∧ .adcStart ∈ (ρ i).emits ∧ ∀ j data, i ≤ j → j < k → σ j ≠ .sample data

/-- The steps that may come next in a schedule that interleaves what is left of a host script with SAMPLE events and the
enabled internal steps (44_control.md R188): no reset, and of the host only the script's next bus step. -/
def scriptAdmits (ops : List HostOp) (s : State) : Event → Bool
  | .busRead addr => ops.head?.map HostOp.event == some (.busRead addr)
  | .busWrite addr data => ops.head?.map HostOp.event == some (.busWrite addr data)
  | .sample _ => true
  | .syncA2C => s.internalEnabled .syncA2C
  | .syncC2A => s.internalEnabled .syncC2A
  | .exec => s.internalEnabled .exec
  | .autoIssue => s.internalEnabled .autoIssue
  | .reset => false

/-- The script without its first operation, if the bus step that led to `t` ended it (30_encoding.md R91). -/
def dropEnded (t : State) : List HostOp → List HostOp
  | [] => []
  | op :: ops => if op.ends t.emits then ops else op :: ops

/-- What is left of a script after a step that led to `t`: only a bus step moves it on (30_encoding.md R91). -/
def scriptRest (ops : List HostOp) (t : State) : Event → List HostOp
  | .busRead _ => dropEnded t ops
  | .busWrite _ _ => dropEnded t ops
  | .sample _ => ops
  | .syncA2C => ops
  | .syncC2A => ops
  | .exec => ops
  | .autoIssue => ops
  | .reset => ops

/-- The end of a host script under a schedule: the first quiescent state after the script's last step (44_control.md R188);
none if the schedule is none of the script's, or does not stop exactly there. -/
def scriptEnd : List Event → List HostOp → State → Option State
  | [], ops, s => if ops = [] ∧ s.quiescent then some s else none
  | e :: es, ops, s =>
    if ops = [] ∧ s.quiescent then none
    else if scriptAdmits ops s e then
      match step (s.withAgenda [e]) with
      | .next t => scriptEnd es (scriptRest ops t e) t
      | .fault _ => none
      | .refused _ => none
    else none

/-- Byte `low` of word `i` of the register window at `base` (20_memory.md R52, R54). -/
def windowAddr (base i low : Nat) : Addr := BitVec.ofNat 12 (base + 4 * i + low)

/-- What a read of an address returns; `d` is the draw its rule names, if any (44_control.md R186). -/
def State.readAt (s : State) (d : Word) (addr : Addr) : Word := s.readReg d (regOf addr)

/-- The host script of 44_control.md R190 that processes one frame by four commands, one read for each poll. -/
def fourCommandScript : List Event :=
  [pollStatus, cmdEvent .dft, .exec, pollStatus, cmdEvent .map, .exec, pollStatus, cmdEvent .hyst, .exec, pollStatus,
   cmdEvent .rel, .exec, pollStatus]

/-- The host script of 44_control.md R190 that processes one frame by FRAME, one read for each poll. -/
def frameScript : List Event := [pollStatus, cmdEvent .frame, .exec, pollStatus]

end Sys2Proof.Machine
end

