-- ==== Sys2Proof/Certificates/Slice0/Obligations.lean ====
section
/-! DEFINITION. The statements for the provers. A word in capitals names a register, a command or a step of the spec. -/

open Sys2Proof Sys2Proof.Machine

/-! ## The command word -/

/-- Decoding the encoding of a command whose operands are in range gives it back (30_encoding.md R82 to R84). -/
def Obligations.DecodeOfEncodeIsTheCommand : Prop :=
  ∀ (cfg : Config) (i : Instr), i.wf cfg = true → decode cfg (encode i) = .ok i

/-- A word that decodes is the encoding of the command it decodes to, whose operands are in range (30_encoding.md R84). -/
def Obligations.EncodeOfDecodeIsTheWord : Prop :=
  ∀ (cfg : Config) (w : Word) (i : Instr), decode cfg w = .ok i → encode i = w ∧ i.wf cfg = true

/-- Decoding is total: a legal word decodes by OP alone into one row, any other is rejected, and only N and NUM_CH
matter (30_encoding.md R88). -/
def Obligations.DecodingIsTotal : Prop :=
  (∀ (cfg : Config) (w : Word),
    (legal cfg w = true → ∃ i, decode cfg w = .ok i ∧ i.op = fieldOp w) ∧
    (legal cfg w = false → ∃ e, decode cfg w = .error e)) ∧
  (∀ (cfg cfg' : Config) (w : Word), cfg.n = cfg'.n → cfg.numCh = cfg'.numCh →
    decode cfg w = decode cfg' w ∧ legal cfg w = legal cfg' w)

/-- The illegal words are exactly those of the five cases of 30_encoding.md R86, and NOP has one word (R87). -/
def Obligations.IllegalWordsAreTheListedCases : Prop :=
  ∀ (cfg : Config) (w : Word),
    (legal cfg w = false ↔
      fieldZ w ≠ 0 ∨ 0xA ≤ (fieldOp w).toNat ∨
      ((fieldOp w).toNat ≠ 0x3 ∧ (fieldOp w).toNat ≠ 0x9 ∧ (fieldCh w ≠ 0 ∨ fieldImm w ≠ 0)) ∨
      ((fieldOp w).toNat = 0x3 ∧ (fieldCh w ≠ 0 ∨ cfg.n / 2 < (fieldImm w).toNat)) ∨
      ((fieldOp w).toNat = 0x9 ∧ (cfg.numCh ≤ (fieldCh w).toNat ∨ 1 < (fieldImm w).toNat))) ∧
    (decode cfg w = .ok .nop ↔ w = 0)

/-- The assembler gives a word exactly for the commands with operands in range, and that word decodes to the command
(30_encoding.md R90). -/
def Obligations.AssemblerGivesExactlyTheLegalWords : Prop :=
  ∀ (cfg : Config) (i : Instr) (w : Word), assemble cfg i = some w ↔ decode cfg w = .ok i

/-- The commands that need READY are REL, DFT, DFTB and FRAME (30_encoding.md R89). -/
def Obligations.ReadyIsNeededByFourCommands : Prop :=
  (∀ op : BitVec 4, needsReady op = true ↔ op = 0x1 ∨ op = 0x2 ∨ op = 0x3 ∨ op = 0x7) ∧
  ∀ (cfg : Config) (w : Word) (i : Instr), decode cfg w = .ok i →
    (needsReady (fieldOp w) = true ↔ i = .rel ∨ i = .dft ∨ (∃ k, i = .dftb k) ∨ i = .frame)

/-- Words written out from 30_encoding.md R84, 42_band_mapper.md R145 and 95_test_vectors.md (DFT-14, SETA-2, ERR-6,
ERR-7), under the defaults. -/
def Obligations.WordsOfTheSpecDecodeAsWritten : Prop :=
  decode Config.default 0x00001000 = .ok .rel ∧ decode Config.default 0x00002000 = .ok .dft ∧
  decode Config.default 0x00003010 = .ok (.dftb 16) ∧ decode Config.default 0x00003011 = .error .binOutOfRange ∧
  decode Config.default 0x00007000 = .ok .frame ∧ decode Config.default 0x00009301 = .ok (.seta 3 1) ∧
  decode Config.default 0x00009801 = .error .setaOutOfRange ∧ decode Config.default 0x00010000 = .error .upperBits ∧
  decode Config.default 0x00002001 = .error .unusedField ∧ decode Config.default 0x0000A000 = .error .reservedOp

/-! ## The step and the whole machine -/

/-- EXEC runs the decoded pending command on the state, then clears BUSY (44_control.md R181). Around it the step only
moves the model's own fields (`advance`). -/
def Obligations.StepRunsThePendingCommand : Prop :=
  ∀ (s : State) (i : Instr), s.cfg.wf → s.executes i → step s = finish (exec i s.advance)

/-- A command the host writes while BUSY = 0, with READY = 1 if it needs it, runs at the next EXEC (44_control.md R180, R181). -/
def Obligations.IssuedCommandRunsAtExec : Prop :=
  ∀ (s : State) (i : Instr) (rest : List Event), s.cfg.wf → i.wf s.cfg = true → s.busy = false →
    (needsReady i.op = true → s.ready = true) → s.agenda = cmdEvent i :: .exec :: rest →
    runSteps 2 s = finish (exec i { s with
      pcmd := encode i, busy := true, agenda := rest, tick := s.tick + 2, emits := [] })

/-- No step of a state that meets the invariant faults or is refused (60_exceptions.md R211). -/
def Obligations.NoStepOfAGoodStateFaults : Prop :=
  ∀ s : State, s.Inv → ∃ t, step s = .next t

/-- Every step keeps the invariant: lengths, the frame buffer's canonical form and ranges, R37, R38, the error code,
the pending command's legality, and the power bound. -/
def Obligations.EveryStepKeepsTheInvariant : Prop :=
  ∀ s t : State, s.Inv → step s = .next t → t.Inv

/-- The state after reset meets the invariant, under every well-formed configuration and so by default. -/
def Obligations.ResetStateMeetsTheInvariant : Prop :=
  (∀ cfg : Config, cfg.wf → (State.resetOf cfg).Inv) ∧ State.reset.Inv

/-- No step writes the twiddle ROM, SEL, THRESH or a parameter (10_state.md R35, R36). -/
def Obligations.NoStepWritesTheConfiguration : Prop :=
  ∀ s t : State, step s = .next t → t.cfg = s.cfg

/-- A step is refused exactly when the configuration fails 00_scope.md R6 (60_exceptions.md R211; that the step is where
the refusal stands is the model's choice, log entry 1). -/
def Obligations.StepRefusesExactlyIllFormedConfigurations : Prop :=
  ∀ (s : State) (r : Refusal), step s = .refused r ↔ ¬s.cfg.wf ∧ r = .illFormedConfig

/-- A step faults exactly when EXEC meets an illegal PCMD (44_control.md R185; the fault itself is the model's choice,
log entry 11). -/
def Obligations.EngineFaultsExactlyOnAnIllegalPendingWord : Prop :=
  ∀ s : State, (∃ f, step s = .fault f) ↔
    s.cfg.wf ∧ s.nextEvent = .exec ∧ s.busy = true ∧ legal s.cfg s.pcmd = false

/-- Each of the ten commands completes on its legal operands in every state (60_exceptions.md R200; 44_control.md
R185), and an operand out of range stops by name (the model's choice, log entry 11). -/
def Obligations.EveryCommandCompletesOnItsLegalOperands : Prop :=
  ∀ (i : Instr) (s : State),
    (i.wf s.cfg = true → ∃ t, exec i s = .next t) ∧ (i.wf s.cfg = false → exec i s = .fault .illegalPcmd)

/-- Which steps but reset change each component: the column "written by" of the table of 10_state.md R21, row by row. -/
def Obligations.EachComponentChangesOnlyByItsWriters : Prop :=
  ∀ s t : State, step s = .next t → s.nextEvent ≠ .reset →
    (t.frame ≠ s.frame → ∃ data, s.nextEvent = .sample data) ∧
    (t.count ≠ s.count → (∃ data, s.nextEvent = .sample data) ∨ s.nextEvent = .syncC2A) ∧
    (t.power ≠ s.power → s.executes .dft ∨ (∃ k, s.executes (.dftb k)) ∨ s.executes .frame) ∧
    (t.bucket ≠ s.bucket → s.executes .fold ∨ s.executes .dft ∨ s.executes .frame) ∧
    (t.active ≠ s.active → s.executes .map ∨ (∃ c v, s.executes (.seta c v)) ∨ s.executes .frame) ∧
    (t.hcnt ≠ s.hcnt ∨ t.out ≠ s.out → s.executes .hyst ∨ s.executes .hclr ∨ s.executes .frame) ∧
    (t.ready ≠ s.ready → s.nextEvent = .syncA2C ∨ s.executes .rel ∨ s.executes .frame) ∧
    (t.relReq ≠ s.relReq → s.nextEvent = .syncC2A ∨ s.executes .rel ∨ s.executes .frame) ∧
    (t.acqEn ≠ s.acqEn ∨ t.auto ≠ s.auto → ∃ d, s.writes .ctrl d) ∧
    (t.busy ≠ s.busy → (∃ d, s.writes .cmd d) ∨ s.nextEvent = .exec ∨ s.nextEvent = .autoIssue) ∧
    (t.pcmd ≠ s.pcmd → (∃ d, s.writes .cmd d) ∨ s.nextEvent = .autoIssue) ∧
    (t.err ≠ s.err ∨ t.errcode ≠ s.errcode → ∃ d, s.writes .cmd d ∨ s.writes .status d)

/-- While a command that has READY = 1 is pending, nothing but EXEC and reset takes it or READY away (44_control.md
R181; 40_acquisition.md R107); and in a weakly fair run without reset its EXEC comes: every issued command runs
(44_control.md R181; 00_scope.md R14). -/
def Obligations.PendingCommandHoldsUntilExec : Prop :=
  (∀ s t : State, s.busy = true → s.nextEvent ≠ .exec → s.nextEvent ≠ .reset → step s = .next t →
    t.busy = true ∧ t.pcmd = s.pcmd ∧ (s.ready = true → t.ready = true)) ∧
  (∀ (σ : Nat → Event) (ρ : Nat → State) (k : Nat), IsRun σ ρ → WeaklyFair σ ρ → (ρ k).busy = true →
    (∀ j, k ≤ j → σ j ≠ .reset) →
    ∃ j, k ≤ j ∧ σ j = .exec ∧ (ρ j).busy = true ∧ (ρ j).pcmd = (ρ k).pcmd ∧
      ((ρ k).ready = true → (ρ j).ready = true))

/-- An enabled internal step brings the machine nearer to a quiescent state, in which no internal step is enabled; and in a
weakly fair run, once samples, writes and resets have ended, some quiescent state follows (44_control.md R188; 00_scope.md
R14). -/
def Obligations.InternalStepsLeadToQuiescence : Prop :=
  (∀ s : State, s.Inv → s.internalEnabled s.nextEvent = true →
    ∃ t, step s = .next t ∧ t.internalWork < s.internalWork) ∧
  (∀ s : State, s.quiescent ↔ ∀ e, s.internalEnabled e = false) ∧
  (∀ (σ : Nat → Event) (ρ : Nat → State) (k : Nat), IsRun σ ρ → WeaklyFair σ ρ → (ρ k).Inv →
    (∀ j, k ≤ j → σ j ≠ .reset ∧ (∀ data, σ j ≠ .sample data) ∧ ∀ addr d, σ j ≠ .busWrite addr d) →
    ∃ j, k ≤ j ∧ (ρ j).quiescent)

/-- An internal step that is not enabled changes nothing (the model's choice for a schedule that names it, log entry 2). -/
def Obligations.DisabledInternalStepChangesNothing : Prop :=
  ∀ s : State, s.cfg.wf →
    s.nextEvent = .syncA2C ∨ s.nextEvent = .syncC2A ∨ s.nextEvent = .exec ∨ s.nextEvent = .autoIssue →
    s.internalEnabled s.nextEvent = false → step s = .next s.advance

/-! ## Reset -/

/-- The reset event sets every component to its value of 10_state.md R40, leaves the ROM and the channel configuration
alone, discards a pending command and a handoff, and emits adc_start when AUTOSTART = 1 (70_reset_and_hazards.md R220). -/
def Obligations.ResetEventGivesTheResetValues : Prop :=
  ∀ s : State, s.cfg.wf → s.nextEvent = .reset → ∃ t, step s = .next t ∧
    t.cfg = s.cfg ∧ (∀ n, t.frame.read n = none) ∧ t.count = 0 ∧ t.ready = false ∧ t.relReq = false ∧
    t.acqEn = s.cfg.autostart ∧ t.auto = s.cfg.autostart ∧ t.busy = false ∧ t.err = false ∧ t.errcode = 0 ∧
    t.shape ∧ (∀ k, t.powerAt k = 0) ∧ (∀ b, t.bucketAt b = 0) ∧ (∀ c, t.activeAt c = false) ∧
    (∀ c, t.hcntAt c = 0) ∧ (∀ c, t.outAt c = false) ∧
    t.emits = if s.cfg.autostart then [.adcStart] else []

/-- What the host reads after reset, under the defaults (70_reset_and_hazards.md R222). -/
def Obligations.ResetStateReadsAsSpecified : Prop :=
  ∀ d : Word,
    State.reset.readAt d 0x000 = 0x10080820 ∧ State.reset.readAt d 0x004 = 0x00000E08 ∧
    State.reset.readAt d 0x008 = 0 ∧
    (∃ fill ≤ 32, State.reset.readAt d 0x00C = BitVec.ofNat 32 fill <<< 8) ∧
    State.reset.readAt d 0x014 = 0 ∧ State.reset.readAt d 0x018 = 0 ∧
    (∀ k < 64, State.reset.readAt d (windowAddr 0x100 k 0) = 0) ∧
    (∀ b < 64, State.reset.readAt d (windowAddr 0x200 b 0) = 0) ∧
    (∀ c < 16, State.reset.readAt d (windowAddr 0x0C0 c 0) = 0) ∧
    (∀ n < 32, State.reset.readAt d (windowAddr 0x300 n 0) = d) ∧
    (∀ j < 32, State.reset.readAt d (windowAddr 0x400 j 0) = BitVec.ofInt 32 (Config.twiddle32.getD j 0))

/-! ## Acquisition and handoff -/

/-- SAMPLE v stores at slot count, advances count, and emits adc_start unless the frame just became full; while
ACQ_EN = 0 or count = N it is dropped (40_acquisition.md R100). -/
def Obligations.SampleStoresOrIsDropped : Prop :=
  ∀ (s : State) (data : BitVec 16), s.cfg.wf → s.nextEvent = .sample data →
    (s.acqEn = true → s.count < s.cfg.n → ∃ t, step s = .next t ∧
      t = { s with
        frame := t.frame, count := s.count + 1, agenda := s.agenda.tail, tick := s.tick + 1
        emits := if s.count + 1 < s.cfg.n then [.adcStart] else [] } ∧
      t.frame.read s.count = some (adcValue s.cfg data) ∧
      s.cfg.smin ≤ adcValue s.cfg data ∧ adcValue s.cfg data ≤ s.cfg.smax ∧
      (∀ n, n ≠ s.count → t.frame.read n = s.frame.read n)) ∧
    (s.acqEn = false ∨ s.cfg.n ≤ s.count → step s = .next s.advance)

/-- Every sample value in SMIN..SMAX has bits on the port that deliver it unchanged (30_encoding.md R81; 40_acquisition.md R100). -/
def Obligations.EverySampleValueCanBeDelivered : Prop :=
  ∀ (cfg : Config) (v : Int), cfg.wf → cfg.smin ≤ v → v ≤ cfg.smax → adcValue cfg (BitVec.ofInt 16 v) = v

/-- SYNC_A2C raises READY when count = N, REL_REQ = 0 and READY = 0; SYNC_C2A clears count and REL_REQ when
REL_REQ = 1, and emits adc_start while ACQ_EN = 1 (40_acquisition.md R103, R104). -/
def Obligations.SynchronizerStepsMoveTheHandoff : Prop :=
  ∀ s : State, s.cfg.wf →
    (s.nextEvent = .syncA2C → s.count = s.cfg.n → s.relReq = false → s.ready = false →
      step s = .next { s.advance with ready := true }) ∧
    (s.nextEvent = .syncC2A → s.relReq = true →
      step s = .next { s.advance with
        count := 0, relReq := false, emits := if s.acqEn then [.adcStart] else [] })

/-- adc_start goes out exactly where 40_acquisition.md R101 says, a storing SAMPLE that leaves count < N, a rising ACQ_EN
with count < N and REL_REQ = 0, and SYNC_C2A with ACQ_EN = 1, and at a reset with AUTOSTART = 1 (70_reset_and_hazards.md R220). -/
def Obligations.AdcStartGoesOutExactlyWhereStated : Prop :=
  ∀ s t : State, step s = .next t →
    (.adcStart ∈ t.emits ↔
      ((∃ data, s.nextEvent = .sample data) ∧ s.acqEn = true ∧ s.count + 1 < s.cfg.n) ∨
      ((∃ d, s.writes .ctrl d ∧ d.getLsbD 0 = true) ∧ s.acqEn = false ∧ s.count < s.cfg.n ∧ s.relReq = false) ∨
      (s.nextEvent = .syncC2A ∧ s.relReq = true ∧ s.acqEn = true) ∨
      (s.nextEvent = .reset ∧ s.cfg.autostart = true))

/-- From a frame that is filling with ACQ_EN = 1, the missing samples and one SYNC_A2C give READY = 1, with each sample
in its slot (20_memory.md R73). In a weakly fair run whose ADC keeps its duty, from a state after which ACQ_EN = 1 and no
reset comes: READY comes from count < N and REL_REQ = 0, in every run from reset, whatever AUTOSTART, and from any other
good state in which an adc_start is unanswered; and from REL_REQ = 1 count becomes 0 (40_acquisition.md R109). -/
def Obligations.FillingTheFrameMakesItReady : Prop :=
  (∀ (s : State) (vs : List Int), s.cfg.wf → s.acqEn = true → s.ready = false → s.relReq = false →
    s.count < s.cfg.n → s.count + vs.length = s.cfg.n → (∀ v ∈ vs, s.cfg.smin ≤ v ∧ v ≤ s.cfg.smax) →
    ∃ t, runSteps (vs.length + 1) (s.withAgenda (sampleEvents vs ++ [.syncA2C])) = .next t ∧
      t.ready = true ∧ t.count = s.cfg.n ∧
      (∀ i < vs.length, t.sampleAt (s.count + i) = vs.getD i 0) ∧ (∀ n < s.count, t.sampleAt n = s.sampleAt n)) ∧
  (∀ (σ : Nat → Event) (ρ : Nat → State) (k : Nat), IsRun σ ρ → WeaklyFair σ ρ → AdcDuty σ ρ →
    (ρ k).handoff → (ρ k).pendingOk → (∀ j, k ≤ j → (ρ j).acqEn = true ∧ σ j ≠ .reset) →
    ((ρ k).count < (ρ k).cfg.n → AdcOwes σ ρ k → ∃ j, k ≤ j ∧ (ρ j).ready = true) ∧
    ((ρ k).relReq = true → ∃ j, k ≤ j ∧ (ρ j).count = 0)) ∧
  (∀ (cfg : Config) (σ : Nat → Event) (ρ : Nat → State) (k : Nat), ρ 0 = State.resetOf cfg → IsRun σ ρ →
    WeaklyFair σ ρ → AdcDuty σ ρ → (∀ j, k ≤ j → (ρ j).acqEn = true ∧ σ j ≠ .reset) →
    (ρ k).count < cfg.n → (ρ k).relReq = false → ∃ j, k ≤ j ∧ (ρ j).ready = true)

/-- While READY = 1 no step but reset changes the frame or count, in a state that meets the handoff invariants of R37
(20_memory.md R73; 40_acquisition.md R107). -/
def Obligations.FrameHoldsStillWhileReady : Prop :=
  ∀ s t : State, s.handoff → s.ready = true → s.nextEvent ≠ .reset → step s = .next t →
    t.frame = s.frame ∧ t.count = s.count

/-- A slot is written only by SAMPLE, only while count < N, only at index count; count rises only by a storing SAMPLE
and is set to 0 only by SYNC_C2A or reset (10_state.md R22, R23). -/
def Obligations.FrameAndCountChangeOnlyByTheirWriters : Prop :=
  ∀ s t : State, step s = .next t → s.nextEvent ≠ .reset →
    (∀ n, t.frame.read n ≠ s.frame.read n →
      (∃ data, s.nextEvent = .sample data) ∧ s.acqEn = true ∧ s.count < s.cfg.n ∧ n = s.count) ∧
    (t.count = s.count ∨
      ((∃ data, s.nextEvent = .sample data) ∧ s.acqEn = true ∧ s.count < s.cfg.n ∧ t.count = s.count + 1) ∨
      (s.nextEvent = .syncC2A ∧ s.relReq = true ∧ t.count = 0))

/-- The handoff invariants hold at reset and every step keeps them (10_state.md R37); that a pending command which
needs READY has it is kept with them. -/
def Obligations.HandoffInvariantsHold : Prop :=
  (∀ cfg : Config, cfg.wf → (State.resetOf cfg).handoff ∧ (State.resetOf cfg).pendingOk) ∧
  (∀ s t : State, s.handoff → s.pendingOk → step s = .next t → t.handoff ∧ t.pendingOk)

/-- REL: READY <- 0, REL_REQ <- 1, and nothing else, the results and the frame included (40_acquisition.md R105). -/
def Obligations.RelHandsTheFrameBack : Prop :=
  ∀ s : State, exec .rel s = .next { s with ready := false, relReq := true }

/-! ## The spectral engine -/

/-- The phases are (k n) mod N and (3N/4 + k n) mod N: they start at 0 and 3N/4, advance by k modulo N per sample, and
stay inside the table (41_spectral.md R122). -/
def Obligations.PhasesAdvanceByTheBin : Prop :=
  ∀ (cfg : Config) (k n : Nat), cfg.wf →
    cosPhase cfg k n = (k * n) % cfg.n ∧ sinPhase cfg k n = (3 * cfg.n / 4 + k * n) % cfg.n ∧
    cosPhase cfg k 0 = 0 ∧ sinPhase cfg k 0 = 3 * cfg.n / 4 ∧
    cosPhase cfg k (n + 1) = (cosPhase cfg k n + k) % cfg.n ∧
    sinPhase cfg k (n + 1) = (sinPhase cfg k n + k) % cfg.n ∧ cosPhase cfg k n < cfg.n ∧ sinPhase cfg k n < cfg.n

/-- FLOOR is the greatest integer at or below p / 2^F; FLOOR and TRUNC agree for p ≥ 0 and for every multiple of 2^F,
and otherwise FLOOR gives one less (41_spectral.md R123). -/
def Obligations.ShiftModesDifferByOneBelowZero : Prop :=
  ∀ (cfg : Config) (p : Int),
    let fl := shift { cfg with shiftMode := .floor } p
    let tr := shift { cfg with shiftMode := .trunc } p
    (fl * 2 ^ cfg.f ≤ p ∧ p < (fl + 1) * 2 ^ cfg.f) ∧
    (0 ≤ p ∨ (2 ^ cfg.f : Int) ∣ p → fl = tr) ∧
    (p < 0 → ¬(2 ^ cfg.f : Int) ∣ p → fl = tr - 1)

/-- The correlation of bin k: under PER_PRODUCT re is the sum of the shifted cosine products and im is minus that of the
shifted sine products; under PER_SUM each sum is shifted once; and the power is (re^2 + im^2) / N^2, rounded down
(41_spectral.md R124, R125). -/
def Obligations.CorrelationAndPowerAreTheStatedSums : Prop :=
  ∀ (cfg : Config) (x : Nat → Int) (k : Nat),
    (cfg.shiftPoint = .perProduct →
      corrRe cfg x k =
        ∑ n ∈ Finset.range cfg.n, shift cfg (x n * twiddleAt cfg (k * n % cfg.n)) ∧
      corrIm cfg x k =
        -∑ n ∈ Finset.range cfg.n, shift cfg (x n * twiddleAt cfg ((3 * cfg.n / 4 + k * n) % cfg.n))) ∧
    (cfg.shiftPoint = .perSum →
      corrRe cfg x k =
        shift cfg (∑ n ∈ Finset.range cfg.n, x n * twiddleAt cfg (k * n % cfg.n)) ∧
      corrIm cfg x k =
        -shift cfg (∑ n ∈ Finset.range cfg.n, x n * twiddleAt cfg ((3 * cfg.n / 4 + k * n) % cfg.n))) ∧
    binPower cfg x k = (corrRe cfg x k ^ 2 + corrIm cfg x k ^ 2) / (cfg.n : Int) ^ 2

/-- In every well-formed configuration, for every bin and every frame: |re| and |im| are at most A, so is every partial
sum of the PER_PRODUCT loop, A fits the accumulator, the power is between 0 and floor_div(2 A^2, N^2) < 2^32, and the
stored word is exactly the power; with the defaults A = 4096 and the power bound is 32768 (41_spectral.md R126). -/
def Obligations.SpectralValuesStayInRange : Prop :=
  (Config.default.accBound = 4096 ∧ Config.default.powerBound = 32768) ∧
  ∀ (cfg : Config) (x : Nat → Int) (k : Nat), cfg.wf → (∀ n < cfg.n, cfg.smin ≤ x n ∧ x n ≤ cfg.smax) →
    |corrRe cfg x k| ≤ cfg.accBound ∧ |corrIm cfg x k| ≤ cfg.accBound ∧
    (cfg.shiftPoint = .perProduct → ∀ m ≤ cfg.n,
      |∑ n ∈ Finset.range m, shift cfg (x n * twiddleAt cfg (cosPhase cfg k n))| ≤ cfg.accBound ∧
      |-∑ n ∈ Finset.range m, shift cfg (x n * twiddleAt cfg (sinPhase cfg k n))| ≤ cfg.accBound) ∧
    cfg.accBound ≤ 2 ^ (cfg.accBits - 1) - 1 ∧
    0 ≤ binPower cfg x k ∧ binPower cfg x k ≤ cfg.powerBound ∧ cfg.powerBound < 2 ^ 32 ∧
    ((zext32 (binPower cfg x k).toNat).toNat : Int) = binPower cfg x k

/-- DFT: POWER[k] is exactly power(k) for every bin, BUCKET is its fold, and nothing else changes (41_spectral.md R127). -/
def Obligations.DftComputesTheSpectrumAndFolds : Prop :=
  ∀ s : State, s.cfg.wf → s.frameOk → ∃ t, exec .dft s = .next t ∧
    t = { s with power := t.power, bucket := t.bucket } ∧
    t.power.length = s.cfg.nb ∧ t.bucket.length = s.cfg.nbk ∧
    (∀ k ≤ s.cfg.n / 2, ((t.powerAt k).toNat : Int) = binPower s.cfg s.sampleAt k) ∧
    (∀ b < s.cfg.nbd, t.bucketAt b = t.powerAt b) ∧
    (t.bucketAt s.cfg.nbd).toNat = ∑ k ∈ Finset.Ico s.cfg.nbd s.cfg.nb, (t.powerAt k).toNat

/-- DFTB k: POWER[k] is exactly power(k), and every other entry and component stays, BUCKET included (41_spectral.md R128). -/
def Obligations.DftbComputesOneBin : Prop :=
  ∀ (s : State) (k : BitVec 8), s.cfg.wf → s.frameOk → s.shape → k.toNat ≤ s.cfg.n / 2 →
    ∃ t, exec (.dftb k) s = .next t ∧ t = { s with power := t.power } ∧
      ((t.powerAt k.toNat).toNat : Int) = binPower s.cfg s.sampleAt k.toNat ∧
      t.power.length = s.power.length ∧ ∀ j, j ≠ k.toNat → t.powerAt j = s.powerAt j

/-- DFTB for every bin and then FOLD ends in the state that DFT ends in (41_spectral.md R128). -/
def Obligations.EveryBinThenFoldEqualsDft : Prop :=
  ∀ s : State, s.cfg.wf → s.power.length = s.cfg.nb →
    runCommands ((List.range s.cfg.nb).map (fun k => .dftb (BitVec.ofNat 8 k)) ++ [.fold]) s = exec .dft s

/-- The spectrum depends only on the frame and the configuration: DFT and FRAME give equal POWER and BUCKET from equal
frames, and DFT run again changes nothing (41_spectral.md R129). -/
def Obligations.SpectrumDependsOnlyOnTheFrame : Prop :=
  (∀ s u : State, s.cfg = u.cfg → s.frame = u.frame → ∃ t v t' v',
    exec .dft s = .next t ∧ exec .dft u = .next v ∧ exec .frame s = .next t' ∧ exec .frame u = .next v' ∧
    t.power = v.power ∧ t.bucket = v.bucket ∧ t'.power = t.power ∧ v'.power = t.power ∧
    t'.bucket = t.bucket ∧ v'.bucket = t.bucket) ∧
  (∀ s t : State, exec .dft s = .next t → exec .dft t = .next t)

/-- An all-zero frame gives re = im = 0 and power 0 in every bin, in every mode; a zero spectrum maps to all inactive,
whatever the thresholds (41_spectral.md R130; 42_band_mapper.md R147). -/
def Obligations.ZeroFrameGivesZeroSpectrum : Prop :=
  (∀ s : State, (∀ n < s.cfg.n, s.sampleAt n = 0) →
    (∀ k, corrRe s.cfg s.sampleAt k = 0 ∧ corrIm s.cfg s.sampleAt k = 0) ∧
    ∃ t u, exec .dft s = .next t ∧ exec .map t = .next u ∧
      (∀ k, t.powerAt k = 0) ∧ (∀ b, t.bucketAt b = 0) ∧ ∀ c, u.activeAt c = false) ∧
  (∀ s : State, (∀ b, s.bucketAt b = 0) → ∃ t, exec .map s = .next t ∧ ∀ c, t.activeAt c = false)

/-! ## The band mapper -/

/-- FOLD: the direct buckets copy their bins, the residual bucket is the exact sum of the others, 0 when there is none,
and nothing else changes (42_band_mapper.md R140, R141). -/
def Obligations.FoldRecomputesTheBuckets : Prop :=
  ∀ s : State, s.cfg.wf → s.powerOk → ∃ t, exec .fold s = .next t ∧
    t = { s with bucket := t.bucket } ∧ t.bucket.length = s.cfg.nbk ∧
    (∀ b < s.cfg.nbd, t.bucketAt b = s.powerAt b) ∧
    (t.bucketAt s.cfg.nbd).toNat = ∑ k ∈ Finset.Ico s.cfg.nbd s.cfg.nb, (s.powerAt k).toNat ∧
    (s.cfg.nbd = s.cfg.n / 2 + 1 → t.bucketAt s.cfg.nbd = 0)

/-- No energy is lost by the fold (42_band_mapper.md R142). -/
def Obligations.FoldLosesNoEnergy : Prop :=
  ∀ s : State, s.cfg.wf → s.powerOk → ∃ t, exec .fold s = .next t ∧
    ∑ b ∈ Finset.range (s.cfg.nbd + 1), (t.bucketAt b).toNat =
      ∑ k ∈ Finset.range (s.cfg.n / 2 + 1), (s.powerAt k).toNat

/-- MAP: ACTIVE[c] is BUCKET[SEL[c]] > THRESH[c], unsigned and strict, for every channel; a channel whose threshold is
2^32 - 1 is never active; nothing else changes (42_band_mapper.md R143, R144). -/
def Obligations.MapComparesEveryChannel : Prop :=
  ∀ s : State, ∃ t, exec .map s = .next t ∧ t = { s with active := t.active } ∧
    t.active.length = s.cfg.numCh ∧
    (∀ c < s.cfg.numCh,
      (t.activeAt c = true ↔ (threshAt s.cfg c).toNat < (s.bucketAt (selAt s.cfg c)).toNat) ∧
      (threshAt s.cfg c = 0xFFFFFFFF → t.activeAt c = false))

/-- SETA c, v: ACTIVE[c] is v, every other channel and component stays (42_band_mapper.md R145). -/
def Obligations.SetaSetsOneActiveBit : Prop :=
  ∀ (s : State) (c : BitVec 4) (v : BitVec 8), s.shape → c.toNat < s.cfg.numCh → v.toNat ≤ 1 →
    ∃ t, exec (.seta c v) s = .next t ∧ t = { s with active := t.active } ∧
      t.active.length = s.cfg.numCh ∧ (t.activeAt c.toNat = true ↔ v = 1) ∧
      ∀ j, j ≠ c.toNat → t.activeAt j = s.activeAt j

/-! ## The hysteresis bank -/

/-- HYST: the transition of 43_hysteresis.md R160 on every channel, each from its own active bit, counter and output;
nothing else changes (R162). -/
def Obligations.HystMovesEveryChannel : Prop :=
  ∀ s : State, s.cfg.wf → ∃ t, exec .hyst s = .next t ∧ t = { s with hcnt := t.hcnt, out := t.out } ∧
    t.hcnt.length = s.cfg.numCh ∧ t.out.length = s.cfg.numCh ∧
    ∀ c < s.cfg.numCh,
      (s.activeAt c = true → s.cfg.attackMode = .inc1 →
        (t.hcntAt c).toNat = min ((s.hcntAt c).toNat + 1) s.cfg.max ∧ t.outAt c = true) ∧
      (s.activeAt c = true → s.cfg.attackMode = .loadMax →
        (t.hcntAt c).toNat = s.cfg.max ∧ t.outAt c = true) ∧
      (s.activeAt c = false → 0 < (s.hcntAt c).toNat →
        (t.hcntAt c).toNat = (s.hcntAt c).toNat - 1 ∧ t.outAt c = true) ∧
      (s.activeAt c = false → (s.hcntAt c).toNat = 0 → t.hcntAt c = 0 ∧ t.outAt c = false)

/-- HCLR: every HCNT and OUT is 0, and nothing else changes, ACTIVE included (43_hysteresis.md R163). -/
def Obligations.HclrClearsTheBank : Prop :=
  ∀ s : State, ∃ t, exec .hclr s = .next t ∧ t = { s with hcnt := t.hcnt, out := t.out } ∧
    t.hcnt.length = s.cfg.numCh ∧ t.out.length = s.cfg.numCh ∧
    ∀ c < s.cfg.numCh, t.hcntAt c = 0 ∧ t.outAt c = false

/-- The hysteresis invariants hold at reset and every step keeps them (10_state.md R38). -/
def Obligations.HysteresisInvariantsHold : Prop :=
  (∀ cfg : Config, cfg.wf → (State.resetOf cfg).bankOk) ∧
  (∀ s t : State, s.bankOk → step s = .next t → t.bankOk)

/-- Over a run of silent HYSTs from HCNT = h, the counter falls by one each to 0, OUT is 1 after frames 1 to h and 0 from
frame h + 1 on (43_hysteresis.md R164). -/
def Obligations.SilentFramesReleaseTheOutput : Prop :=
  ∀ (s : State) (c m : Nat), s.cfg.wf → c < s.cfg.numCh → s.activeAt c = false → 1 ≤ m →
    ∃ t, runCommands (List.replicate m .hyst) s = .next t ∧
      (t.hcntAt c).toNat = (s.hcntAt c).toNat - m ∧ (t.outAt c = true ↔ m ≤ (s.hcntAt c).toNat)

/-- Over a run of m active HYSTs from HCNT = h0, the counter is min(h0 + m, MAX) under INC1 and MAX under LOAD_MAX, and
OUT is 1 (43_hysteresis.md R164, R166). -/
def Obligations.ActiveFramesChargeTheCounter : Prop :=
  ∀ (s : State) (c m : Nat), s.cfg.wf → c < s.cfg.numCh → s.activeAt c = true → 1 ≤ m →
    ∃ t, runCommands (List.replicate m .hyst) s = .next t ∧ t.outAt c = true ∧ 1 ≤ (t.hcntAt c).toNat ∧
      (s.cfg.attackMode = .inc1 → (t.hcntAt c).toNat = min ((s.hcntAt c).toNat + m) s.cfg.max) ∧
      (s.cfg.attackMode = .loadMax → (t.hcntAt c).toNat = s.cfg.max)

/-- OUT goes from 1 to 0 only by HCLR, by reset, or by a HYST or FRAME in which the channel is inactive and finds its
counter already at 0 (43_hysteresis.md R165). -/
def Obligations.OutputFallsOnlyFromSilentZero : Prop :=
  ∀ (s t : State) (c : Nat), c < s.cfg.numCh → step s = .next t → s.outAt c = true → t.outAt c = false →
    s.nextEvent = .reset ∨ s.executes .hclr ∨
    (s.executes .hyst ∧ s.activeAt c = false ∧ (s.hcntAt c).toNat = 0) ∨
    (s.executes .frame ∧ t.activeAt c = false ∧ (s.hcntAt c).toNat = 0)

/-! ## Control -/

/-- NOP changes no state, and as a pending command it only lets BUSY fall (44_control.md R182). -/
def Obligations.NopOnlyLetsBusyFall : Prop :=
  (∀ s : State, exec .nop s = .next s) ∧
  (∀ s : State, s.cfg.wf → s.executes .nop → step s = .next { s.advance with busy := false })

/-- FRAME: POWER, BUCKET, ACTIVE, HCNT and OUT by engine, mapper and bank in this order, then READY <- 0 and REL_REQ <- 1;
nothing else changes, the frame and count included (44_control.md R183). -/
def Obligations.FrameProcessesOneFrame : Prop :=
  ∀ s : State, s.cfg.wf → s.frameOk → ∃ t, exec .frame s = .next t ∧
    t = { s with
      power := t.power, bucket := t.bucket, active := t.active, hcnt := t.hcnt, out := t.out
      ready := false, relReq := true } ∧
    t.shape ∧
    (∀ k ≤ s.cfg.n / 2, ((t.powerAt k).toNat : Int) = binPower s.cfg s.sampleAt k) ∧
    (∀ b < s.cfg.nbd, t.bucketAt b = t.powerAt b) ∧
    (t.bucketAt s.cfg.nbd).toNat = ∑ k ∈ Finset.Ico s.cfg.nbd s.cfg.nb, (t.powerAt k).toNat ∧
    (∀ c < s.cfg.numCh,
      (t.activeAt c = true ↔ (threshAt s.cfg c).toNat < (t.bucketAt (selAt s.cfg c)).toNat) ∧
      (t.hcntAt c, t.outAt c) = hstep s.cfg (t.activeAt c) (s.hcntAt c) (s.outAt c))

/-- The host script DFT, MAP, HYST, REL ends in the same state as the script FRAME on the same frame; only PCMD, which
has no meaning while BUSY = 0, differs (44_control.md R190, R183; 10_state.md R28). And under every schedule that
interleaves a script with SAMPLE events and enabled internal steps, with AUTO = 0, each script ends with the results that
FRAME gives on that frame (44_control.md R188, R190). -/
def Obligations.FourCommandScriptEqualsFrameScript : Prop :=
  (∀ s : State, s.cfg.wf → s.busy = false → s.ready = true →
    ∃ t u, runSteps fourCommandScript.length (s.withAgenda fourCommandScript) = .next t ∧
      runSteps frameScript.length (s.withAgenda frameScript) = .next u ∧
      t.busy = false ∧ t.ready = false ∧ t.relReq = true ∧
      t.architectural = { u.architectural with pcmd := t.pcmd }) ∧
  (∀ (s t u : State) (es : List Event), s.cfg.wf → s.handoff → s.busy = false → s.ready = true → s.auto = false →
    exec .frame s = .next u → scriptEnd es frameOps s = some t ∨ scriptEnd es fourCommandOps s = some t →
    t.power = u.power ∧ t.bucket = u.bucket ∧ t.active = u.active ∧ t.hcnt = u.hcnt ∧ t.out = u.out ∧
      t.busy = false ∧ t.relReq = false ∧ t.err = s.err ∧ t.errcode = s.errcode)

/-- AUTOISSUE makes FRAME pending while AUTO = 1, BUSY = 0 and READY = 1, and the EXEC after it runs FRAME (44_control.md R184). -/
def Obligations.AutoIssueRunsFrame : Prop :=
  ∀ s : State, s.cfg.wf → s.auto = true → s.busy = false → s.ready = true →
    (s.nextEvent = .autoIssue → step s = .next { s.advance with pcmd := 0x00007000, busy := true }) ∧
    (∀ rest, s.agenda = .autoIssue :: .exec :: rest → runSteps 2 s = finish (exec .frame { s with
      pcmd := 0x00007000, busy := true, agenda := rest, tick := s.tick + 2, emits := [] }))

/-! ## The host's bus -/

/-- A write to CMD: BUSY, ILLEGAL and NOTREADY are checked in this order, a rejected word changes only ERR and ERRCODE,
where the first code is kept, and an accepted word becomes pending (44_control.md R180; 60_exceptions.md R202, R203). -/
def Obligations.IssueChecksInOrder : Prop :=
  ∀ (s : State) (w : Word), s.cfg.wf → s.writes .cmd w →
    let reject (code : BitVec 4) : State :=
      { s.advance with err := true, errcode := if s.err = true then s.errcode else code }
    (s.busy = true → step s = .next (reject 1)) ∧
    (s.busy = false → legal s.cfg w = false → step s = .next (reject 2)) ∧
    (s.busy = false → legal s.cfg w = true → needsReady (fieldOp w) = true → s.ready = false →
      step s = .next (reject 3)) ∧
    (s.busy = false → legal s.cfg w = true → (needsReady (fieldOp w) = true → s.ready = true) →
      step s = .next { s.advance with pcmd := w, busy := true })

/-- A write to CTRL sets ACQ_EN and AUTO and emits adc_start on a rising ACQ_EN while count < N and REL_REQ = 0; a write
to STATUS with bit 2 set clears ERR and ERRCODE; a write anywhere but CTRL, STATUS and CMD does nothing (20_memory.md
R57, R58, R69; 44_control.md R187). -/
def Obligations.BusWritesReachOnlyTheirRegister : Prop :=
  ∀ (s : State) (d : Word), s.cfg.wf →
    (s.writes .ctrl d → step s = .next { s.advance with
      acqEn := d.getLsbD 0, auto := d.getLsbD 1
      emits := if s.acqEn = false ∧ d.getLsbD 0 = true ∧ s.count < s.cfg.n ∧ s.relReq = false
        then [.adcStart] else [] }) ∧
    (s.writes .status d → step s = .next { s.advance with
      err := if d.getLsbD 2 then false else s.err
      errcode := if d.getLsbD 2 then 0 else s.errcode }) ∧
    (∀ r, r ≠ .ctrl → r ≠ .status → r ≠ .cmd → s.writes r d → step s = .next s.advance)

/-- A bus read changes no state, and puts out the word of the addressed register, with a draw where its rule names one
(44_control.md R186; 20_memory.md R70). -/
def Obligations.BusReadChangesNoState : Prop :=
  ∀ (s : State) (addr : Addr), s.cfg.wf → s.nextEvent = .busRead addr →
    ∃ t, step s = .next t ∧ t.architectural = s.architectural ∧ ∃ d, t.emits = [.busData (s.readAt d addr)]

/-- PARAM0, PARAM1 and the CHSEL, THRESH and TWID windows read the configuration, at every byte of a word (20_memory.md
R52, R55, R56, R62, R63, R68). -/
def Obligations.ConstantRegistersReadTheConfiguration : Prop :=
  ∀ (s : State) (d : Word) (low : Nat), s.cfg.wf → low < 4 →
    (s.readAt d (windowAddr 0x000 0 low)).toNat =
      s.cfg.n + 2 ^ 8 * s.cfg.numCh + 2 ^ 16 * s.cfg.nbd + 2 ^ 24 * s.cfg.max ∧
    (s.readAt d (windowAddr 0x004 0 low)).toNat =
      s.cfg.sb + 2 ^ 8 * s.cfg.f + 2 ^ 16 * (if s.cfg.shiftMode = .trunc then 1 else 0) +
      2 ^ 17 * (if s.cfg.shiftPoint = .perSum then 1 else 0) +
      2 ^ 18 * (if s.cfg.attackMode = .loadMax then 1 else 0) + 2 ^ 19 * (if s.cfg.autostart then 1 else 0) ∧
    (∀ c < 16, (s.readAt d (windowAddr 0x040 c low)).toNat = if c < s.cfg.numCh then selAt s.cfg c else 0) ∧
    (∀ c < 16, s.readAt d (windowAddr 0x080 c low) = if c < s.cfg.numCh then threshAt s.cfg c else 0) ∧
    (∀ j < 64, (s.readAt d (windowAddr 0x400 j low)).toInt = if j < s.cfg.n then twiddleAt s.cfg j else 0)

/-- The result windows are exact while BUSY = 0 and draws while BUSY = 1; OUTR is exact at every step; the frame window is
exact while READY = 1 and a draw otherwise; indices beyond the configuration read 0 (20_memory.md R60, R61, R64 to R67). -/
def Obligations.ResultWindowsAreExactWhileIdle : Prop :=
  ∀ (s : State) (d : Word) (low : Nat), s.cfg.wf → s.frameOk → low < 4 →
    (∀ c < 32, (s.readAt d (windowAddr 0x014 0 low)).getLsbD c = (decide (c < s.cfg.numCh) && s.outAt c)) ∧
    (s.busy = false →
      (∀ c < 32, (s.readAt d (windowAddr 0x018 0 low)).getLsbD c = (decide (c < s.cfg.numCh) && s.activeAt c)) ∧
      (∀ c < 16, (s.readAt d (windowAddr 0x0C0 c low)).toNat =
        if c < s.cfg.numCh then (s.hcntAt c).toNat else 0) ∧
      (∀ k < 64, s.readAt d (windowAddr 0x100 k low) = if k < s.cfg.nb then s.powerAt k else 0) ∧
      (∀ b < 64, s.readAt d (windowAddr 0x200 b low) = if b ≤ s.cfg.nbd then s.bucketAt b else 0)) ∧
    (s.busy = true →
      s.readAt d (windowAddr 0x018 0 low) = d ∧ (∀ c < 16, s.readAt d (windowAddr 0x0C0 c low) = d) ∧
      (∀ k < 64, s.readAt d (windowAddr 0x100 k low) = d) ∧ (∀ b < 64, s.readAt d (windowAddr 0x200 b low) = d)) ∧
    (∀ n < 64,
      (s.cfg.n ≤ n → s.readAt d (windowAddr 0x300 n low) = 0) ∧
      (n < s.cfg.n → s.ready = true → (s.readAt d (windowAddr 0x300 n low)).toInt = s.sampleAt n) ∧
      (n < s.cfg.n → s.ready = false → s.readAt d (windowAddr 0x300 n low) = d))

/-- STATUS and CTRL bit by bit; FILL is count while READY or REL_REQ is 1 and otherwise a draw that can be any value of
0..N; CMD and reserved addresses read 0 (20_memory.md R57, R58, R59, R69). -/
def Obligations.StatusAndControlReadTheirFields : Prop :=
  ∀ (s : State) (d : Word) (low : Nat), s.cfg.wf → s.handoff → low < 4 →
    ((s.readAt d (windowAddr 0x00C 0 low)).getLsbD 0 = s.ready ∧
      (s.readAt d (windowAddr 0x00C 0 low)).getLsbD 1 = s.busy ∧
      (s.readAt d (windowAddr 0x00C 0 low)).getLsbD 2 = s.err ∧
      (s.readAt d (windowAddr 0x00C 0 low)).getLsbD 3 = s.relReq ∧
      (s.readAt d (windowAddr 0x00C 0 low)).extractLsb' 4 4 = s.errcode ∧
      (s.readAt d (windowAddr 0x00C 0 low)).extractLsb' 15 17 = 0) ∧
    (s.ready = true ∨ s.relReq = true →
      ((s.readAt d (windowAddr 0x00C 0 low)).extractLsb' 8 7).toNat = s.count) ∧
    (s.ready = false → s.relReq = false →
      ((s.readAt d (windowAddr 0x00C 0 low)).extractLsb' 8 7).toNat ≤ s.cfg.n ∧
      ∀ v ≤ s.cfg.n, ∃ d', ((s.readAt d' (windowAddr 0x00C 0 low)).extractLsb' 8 7).toNat = v) ∧
    (s.readAt d (windowAddr 0x008 0 low)).toNat =
      (if s.acqEn then 1 else 0) + 2 * (if s.auto then 1 else 0) ∧
    s.readAt d (windowAddr 0x010 0 low) = 0 ∧
    (∀ i, 7 ≤ i → i < 16 → s.readAt d (windowAddr 0 i low) = 0) ∧
    (∀ i, 0x140 ≤ i → i < 0x400 → s.readAt d (windowAddr 0 i low) = 0)
end

