-- ==== Sys2Proof/Laws/Bus.lean ====
section
/-! SUPPORT. The register that each byte of each window reaches (20_memory.md R52, R54). -/

namespace Sys2Proof.Machine

/-- An address reaches the register of its word slot, whatever its two low bits. -/
theorem regOf_windowAddr {base i low : Nat} (h : low < 4) (hb : base % 4 = 0) (hl : base + 4 * i < 4096) :
    regOf (windowAddr base i low) = regAtSlot (base / 4 + i) := by
  unfold regOf slotOf windowAddr
  congr 1
  simp only [BitVec.extractLsb'_toNat, BitVec.toNat_ofNat, Nat.shiftRight_eq_div_pow]
  omega

theorem regAtSlot_chsel : ∀ c < 16, regAtSlot (0x040 / 4 + c) = .chsel c := by decide

theorem regAtSlot_thresh : ∀ c < 16, regAtSlot (0x080 / 4 + c) = .thresh c := by decide

theorem regAtSlot_hcnt : ∀ c < 16, regAtSlot (0x0C0 / 4 + c) = .hcnt c := by decide

theorem regAtSlot_power : ∀ k < 64, regAtSlot (0x100 / 4 + k) = .power k := by decide

theorem regAtSlot_bucket : ∀ b < 64, regAtSlot (0x200 / 4 + b) = .bucket b := by decide

theorem regAtSlot_framew : ∀ n < 64, regAtSlot (0x300 / 4 + n) = .framew n := by decide

theorem regAtSlot_twid : ∀ j < 64, regAtSlot (0x400 / 4 + j) = .twid j := by decide

/-- The slots from 0x01C to 0x03C are reserved. -/
theorem regAtSlot_reserved_low : ∀ i < 16, 7 ≤ i → regAtSlot i = .reserved := by decide

/-- The slots from 0x500 up are reserved. -/
theorem regAtSlot_reserved_high {i : Nat} (h : 0x140 ≤ i) : regAtSlot i = .reserved := by
  have ne (k : Nat) (hk : k < 0x140) : i ≠ k := by omega
  have nl (k : Nat) (hk : k ≤ 0x140) : ¬i < k := by omega
  simp only [regAtSlot, ne 0 (by decide), ne 1 (by decide), ne 2 (by decide), ne 3 (by decide), ne 4 (by decide),
    ne 5 (by decide), ne 6 (by decide), nl (0x040 / 4) (by decide), nl (0x080 / 4) (by decide), nl (0x0C0 / 4) (by decide),
    nl (0x100 / 4) (by decide), nl (0x200 / 4) (by decide), nl (0x300 / 4) (by decide), nl (0x400 / 4) (by decide),
    nl (0x500 / 4) (by decide), if_false]

end Sys2Proof.Machine
end

