-- ==== Sys2Proof/Laws/Decode.lean ====
section
/-! SUPPORT. The bits and fields of a command word. -/

namespace Sys2Proof

/-- Each bit of a word built from its fields (30_encoding.md R82). -/
theorem getLsbD_commandWord (op ch : BitVec 4) (imm : BitVec 8) (i : Nat) :
    (commandWord op ch imm).getLsbD i =
      if i < 8 then imm.getLsbD i else if i < 12 then ch.getLsbD (i - 8) else
      if i < 16 then op.getLsbD (i - 12) else false := by
  unfold commandWord
  erw [BitVec.getLsbD_append, BitVec.getLsbD_append, BitVec.getLsbD_append]
  have e : i - 8 - 4 = i - 12 := by omega
  have h1 : i - 8 < 4 ↔ i < 12 := by omega
  simp only [h1, e, BitVec.getLsbD_zero]
  by_cases h : i < 12
  · simp only [h, if_true]
  · have h2 : i - 12 < 4 ↔ i < 16 := by omega
    simp only [h, h2]

/-- The fields of a word built from its fields (30_encoding.md R82). -/
@[simp] theorem fieldZ_commandWord (op ch : BitVec 4) (imm : BitVec 8) : fieldZ (commandWord op ch imm) = 0 := by
  apply BitVec.eq_of_getLsbD_eq
  intro i _
  have h1 : ¬16 + i < 8 := by omega
  have h2 : ¬16 + i < 12 := by omega
  simp [fieldZ, getLsbD_commandWord, h1, h2]

@[simp] theorem fieldOp_commandWord (op ch : BitVec 4) (imm : BitVec 8) : fieldOp (commandWord op ch imm) = op := by
  apply BitVec.eq_of_getLsbD_eq
  intro i hi
  have h1 : ¬12 + i < 8 := by omega
  have h2 : 12 + i < 16 := by omega
  simp [fieldOp, getLsbD_commandWord, h1, h2, hi]

@[simp] theorem fieldCh_commandWord (op ch : BitVec 4) (imm : BitVec 8) : fieldCh (commandWord op ch imm) = ch := by
  apply BitVec.eq_of_getLsbD_eq
  intro i hi
  have h1 : 8 + i < 12 := by omega
  simp [fieldCh, getLsbD_commandWord, h1, hi]

@[simp] theorem fieldImm_commandWord (op ch : BitVec 4) (imm : BitVec 8) : fieldImm (commandWord op ch imm) = imm := by
  apply BitVec.eq_of_getLsbD_eq
  intro i hi
  simp [fieldImm, getLsbD_commandWord, hi]

end Sys2Proof
end

