-- ==== Sys2Proof/Laws/Memory.lean ====
section
/-! SUPPORT. The laws of the frame buffer: read after write, and that a write keeps the canonical form. -/

namespace Sys2Proof.Machine

@[simp] theorem Memory.read_nil (n : Nat) : Memory.read [] n = none := rfl

theorem Memory.read_write_same (m : Memory) (n : Nat) (v : Int) : (m.write n v).read n = some v := by
  induction m with
  | nil => simp [Memory.write, Memory.read]
  | cons e m ih =>
    obtain ⟨k, u⟩ := e
    by_cases h1 : n < k
    · simp [Memory.write, Memory.read, h1]
    · by_cases h2 : n = k
      · simp [Memory.write, Memory.read, h2]
      · have h3 : ¬k = n := fun h => h2 h.symm
        simp [Memory.write, Memory.read, h1, h2, h3, ih]

theorem Memory.read_write_ne (m : Memory) {n j : Nat} (v : Int) (h : j ≠ n) : (m.write n v).read j = m.read j := by
  induction m with
  | nil => simp [Memory.write, Memory.read, Ne.symm h]
  | cons e m ih =>
    obtain ⟨k, u⟩ := e
    by_cases h1 : n < k
    · simp [Memory.write, Memory.read, h1, Ne.symm h]
    · by_cases h2 : n = k
      · subst h2
        simp [Memory.write, Memory.read, Ne.symm h]
      · simp only [Memory.write, h1, h2, if_false, Memory.read, ih]

/-- A read of any slot after a write. -/
theorem Memory.read_write (m : Memory) (n j : Nat) (v : Int) :
    (m.write n v).read j = if j = n then some v else m.read j := by
  split
  · next h => rw [h, Memory.read_write_same]
  · next h => exact Memory.read_write_ne m v h

/-- An entry of a buffer after a write is the one written or an old one. -/
theorem Memory.mem_write {m : Memory} {n : Nat} {v : Int} {e : Nat × Int} (h : e ∈ m.write n v) :
    e = (n, v) ∨ e ∈ m := by
  induction m with
  | nil => simpa [Memory.write] using h
  | cons a m ih =>
    obtain ⟨k, u⟩ := a
    simp only [Memory.write] at h
    split at h
    · simpa using h
    · split at h
      · rcases List.mem_cons.1 h with h | h
        · exact .inl h
        · exact .inr (List.mem_cons_of_mem _ h)
      · rcases List.mem_cons.1 h with h | h
        · exact .inr (h ▸ List.mem_cons_self)
        · exact (ih h).imp id (List.mem_cons_of_mem _)

/-- A write keeps the canonical form. -/
theorem Memory.wf_write {m : Memory} (hm : m.wf) (n : Nat) (v : Int) : (m.write n v).wf := by
  induction m with
  | nil => simp [Memory.write, Memory.wf]
  | cons a m ih =>
    obtain ⟨k, u⟩ := a
    obtain ⟨ha, hm'⟩ := List.pairwise_cons.1 hm
    simp only [Memory.write]
    split
    · next h1 =>
      refine List.pairwise_cons.2 ⟨fun b hb => ?_, hm⟩
      rcases List.mem_cons.1 hb with hb | hb
      · exact hb ▸ h1
      · exact Nat.lt_trans h1 (ha b hb)
    · split
      · next h2 => exact List.pairwise_cons.2 ⟨h2 ▸ ha, hm'⟩
      · next h1 h2 =>
        refine List.pairwise_cons.2 ⟨fun b hb => ?_, ih hm'⟩
        rcases Memory.mem_write hb with hb | hb
        · subst hb
          show k < n
          omega
        · exact ha b hb

/-- The buffer after reset is canonical. -/
theorem Memory.wf_reset : State.reset.frame.wf := by decide

/-- A sample read from a buffer is one of its entries. -/
theorem Memory.mem_of_read {m : Memory} {n : Nat} {v : Int} (h : m.read n = some v) : (n, v) ∈ m := by
  induction m with
  | nil => cases h
  | cons a m ih =>
    obtain ⟨k, u⟩ := a
    simp only [Memory.read] at h
    split at h
    · next hk => simp_all
    · exact List.mem_cons_of_mem _ (ih h)

end Sys2Proof.Machine
end

