-- ==== Sys2Proof/Laws/State.lean ====
section
/-! SUPPORT. What each named update of the state does to each field. -/

namespace Sys2Proof.Machine

/-! `emit`: only the trace changes (00_scope.md R11). -/

@[simp] theorem State.emit_cfg (s : State) (e : Emit) : (s.emit e).cfg = s.cfg := rfl
@[simp] theorem State.emit_frame (s : State) (e : Emit) : (s.emit e).frame = s.frame := rfl
@[simp] theorem State.emit_count (s : State) (e : Emit) : (s.emit e).count = s.count := rfl
@[simp] theorem State.emit_ready (s : State) (e : Emit) : (s.emit e).ready = s.ready := rfl
@[simp] theorem State.emit_relReq (s : State) (e : Emit) : (s.emit e).relReq = s.relReq := rfl
@[simp] theorem State.emit_acqEn (s : State) (e : Emit) : (s.emit e).acqEn = s.acqEn := rfl
@[simp] theorem State.emit_auto (s : State) (e : Emit) : (s.emit e).auto = s.auto := rfl
@[simp] theorem State.emit_busy (s : State) (e : Emit) : (s.emit e).busy = s.busy := rfl
@[simp] theorem State.emit_pcmd (s : State) (e : Emit) : (s.emit e).pcmd = s.pcmd := rfl
@[simp] theorem State.emit_err (s : State) (e : Emit) : (s.emit e).err = s.err := rfl
@[simp] theorem State.emit_errcode (s : State) (e : Emit) : (s.emit e).errcode = s.errcode := rfl
@[simp] theorem State.emit_power (s : State) (e : Emit) : (s.emit e).power = s.power := rfl
@[simp] theorem State.emit_bucket (s : State) (e : Emit) : (s.emit e).bucket = s.bucket := rfl
@[simp] theorem State.emit_active (s : State) (e : Emit) : (s.emit e).active = s.active := rfl
@[simp] theorem State.emit_hcnt (s : State) (e : Emit) : (s.emit e).hcnt = s.hcnt := rfl
@[simp] theorem State.emit_out (s : State) (e : Emit) : (s.emit e).out = s.out := rfl
@[simp] theorem State.emit_agenda (s : State) (e : Emit) : (s.emit e).agenda = s.agenda := rfl
@[simp] theorem State.emit_tick (s : State) (e : Emit) : (s.emit e).tick = s.tick := rfl
@[simp] theorem State.emit_emits (s : State) (e : Emit) : (s.emit e).emits = s.emits ++ [e] := rfl

/-! `emitStartIf`: only the trace changes (40_acquisition.md R101). -/

@[simp] theorem State.emitStartIf_cfg (s : State) (b : Bool) : (s.emitStartIf b).cfg = s.cfg := by cases b <;> rfl
@[simp] theorem State.emitStartIf_frame (s : State) (b : Bool) : (s.emitStartIf b).frame = s.frame := by cases b <;> rfl
@[simp] theorem State.emitStartIf_count (s : State) (b : Bool) : (s.emitStartIf b).count = s.count := by cases b <;> rfl
@[simp] theorem State.emitStartIf_ready (s : State) (b : Bool) : (s.emitStartIf b).ready = s.ready := by cases b <;> rfl
@[simp] theorem State.emitStartIf_relReq (s : State) (b : Bool) : (s.emitStartIf b).relReq = s.relReq :=
  by cases b <;> rfl
@[simp] theorem State.emitStartIf_acqEn (s : State) (b : Bool) : (s.emitStartIf b).acqEn = s.acqEn := by cases b <;> rfl
@[simp] theorem State.emitStartIf_auto (s : State) (b : Bool) : (s.emitStartIf b).auto = s.auto := by cases b <;> rfl
@[simp] theorem State.emitStartIf_busy (s : State) (b : Bool) : (s.emitStartIf b).busy = s.busy := by cases b <;> rfl
@[simp] theorem State.emitStartIf_pcmd (s : State) (b : Bool) : (s.emitStartIf b).pcmd = s.pcmd := by cases b <;> rfl
@[simp] theorem State.emitStartIf_err (s : State) (b : Bool) : (s.emitStartIf b).err = s.err := by cases b <;> rfl
@[simp] theorem State.emitStartIf_errcode (s : State) (b : Bool) : (s.emitStartIf b).errcode = s.errcode :=
  by cases b <;> rfl
@[simp] theorem State.emitStartIf_power (s : State) (b : Bool) : (s.emitStartIf b).power = s.power := by cases b <;> rfl
@[simp] theorem State.emitStartIf_bucket (s : State) (b : Bool) : (s.emitStartIf b).bucket = s.bucket :=
  by cases b <;> rfl
@[simp] theorem State.emitStartIf_active (s : State) (b : Bool) : (s.emitStartIf b).active = s.active :=
  by cases b <;> rfl
@[simp] theorem State.emitStartIf_hcnt (s : State) (b : Bool) : (s.emitStartIf b).hcnt = s.hcnt := by cases b <;> rfl
@[simp] theorem State.emitStartIf_out (s : State) (b : Bool) : (s.emitStartIf b).out = s.out := by cases b <;> rfl
@[simp] theorem State.emitStartIf_agenda (s : State) (b : Bool) : (s.emitStartIf b).agenda = s.agenda :=
  by cases b <;> rfl
@[simp] theorem State.emitStartIf_tick (s : State) (b : Bool) : (s.emitStartIf b).tick = s.tick := by cases b <;> rfl
@[simp] theorem State.emitStartIf_emits (s : State) (b : Bool) : (s.emitStartIf b).emits = if b then s.emits ++ [.adcStart] else s.emits :=
  by cases b <;> rfl

/-! `advance`: only the model's own fields change. -/

@[simp] theorem State.advance_cfg (s : State) : (s.advance).cfg = s.cfg := rfl
@[simp] theorem State.advance_frame (s : State) : (s.advance).frame = s.frame := rfl
@[simp] theorem State.advance_count (s : State) : (s.advance).count = s.count := rfl
@[simp] theorem State.advance_ready (s : State) : (s.advance).ready = s.ready := rfl
@[simp] theorem State.advance_relReq (s : State) : (s.advance).relReq = s.relReq := rfl
@[simp] theorem State.advance_acqEn (s : State) : (s.advance).acqEn = s.acqEn := rfl
@[simp] theorem State.advance_auto (s : State) : (s.advance).auto = s.auto := rfl
@[simp] theorem State.advance_busy (s : State) : (s.advance).busy = s.busy := rfl
@[simp] theorem State.advance_pcmd (s : State) : (s.advance).pcmd = s.pcmd := rfl
@[simp] theorem State.advance_err (s : State) : (s.advance).err = s.err := rfl
@[simp] theorem State.advance_errcode (s : State) : (s.advance).errcode = s.errcode := rfl
@[simp] theorem State.advance_power (s : State) : (s.advance).power = s.power := rfl
@[simp] theorem State.advance_bucket (s : State) : (s.advance).bucket = s.bucket := rfl
@[simp] theorem State.advance_active (s : State) : (s.advance).active = s.active := rfl
@[simp] theorem State.advance_hcnt (s : State) : (s.advance).hcnt = s.hcnt := rfl
@[simp] theorem State.advance_out (s : State) : (s.advance).out = s.out := rfl
@[simp] theorem State.advance_agenda (s : State) : (s.advance).agenda = s.agenda.tail := rfl
@[simp] theorem State.advance_tick (s : State) : (s.advance).tick = s.tick + 1 := rfl
@[simp] theorem State.advance_emits (s : State) : (s.advance).emits = [] := rfl

/-! `raiseError`: only ERR and ERRCODE change, and the first code is kept (60_exceptions.md R202). -/

@[simp] theorem State.raiseError_cfg (s : State) (c : BitVec 4) : (s.raiseError c).cfg = s.cfg :=
  by
  cases h : s.err <;> simp [State.raiseError, h]
@[simp] theorem State.raiseError_frame (s : State) (c : BitVec 4) : (s.raiseError c).frame = s.frame :=
  by
  cases h : s.err <;> simp [State.raiseError, h]
@[simp] theorem State.raiseError_count (s : State) (c : BitVec 4) : (s.raiseError c).count = s.count :=
  by
  cases h : s.err <;> simp [State.raiseError, h]
@[simp] theorem State.raiseError_ready (s : State) (c : BitVec 4) : (s.raiseError c).ready = s.ready :=
  by
  cases h : s.err <;> simp [State.raiseError, h]
@[simp] theorem State.raiseError_relReq (s : State) (c : BitVec 4) : (s.raiseError c).relReq = s.relReq :=
  by
  cases h : s.err <;> simp [State.raiseError, h]
@[simp] theorem State.raiseError_acqEn (s : State) (c : BitVec 4) : (s.raiseError c).acqEn = s.acqEn :=
  by
  cases h : s.err <;> simp [State.raiseError, h]
@[simp] theorem State.raiseError_auto (s : State) (c : BitVec 4) : (s.raiseError c).auto = s.auto :=
  by
  cases h : s.err <;> simp [State.raiseError, h]
@[simp] theorem State.raiseError_busy (s : State) (c : BitVec 4) : (s.raiseError c).busy = s.busy :=
  by
  cases h : s.err <;> simp [State.raiseError, h]
@[simp] theorem State.raiseError_pcmd (s : State) (c : BitVec 4) : (s.raiseError c).pcmd = s.pcmd :=
  by
  cases h : s.err <;> simp [State.raiseError, h]
@[simp] theorem State.raiseError_err (s : State) (c : BitVec 4) : (s.raiseError c).err = true :=
  by
  cases h : s.err <;> simp [State.raiseError, h]
@[simp] theorem State.raiseError_errcode (s : State) (c : BitVec 4) : (s.raiseError c).errcode = if s.err then s.errcode else c :=
  by
  cases h : s.err <;> simp [State.raiseError, h]
@[simp] theorem State.raiseError_power (s : State) (c : BitVec 4) : (s.raiseError c).power = s.power :=
  by
  cases h : s.err <;> simp [State.raiseError, h]
@[simp] theorem State.raiseError_bucket (s : State) (c : BitVec 4) : (s.raiseError c).bucket = s.bucket :=
  by
  cases h : s.err <;> simp [State.raiseError, h]
@[simp] theorem State.raiseError_active (s : State) (c : BitVec 4) : (s.raiseError c).active = s.active :=
  by
  cases h : s.err <;> simp [State.raiseError, h]
@[simp] theorem State.raiseError_hcnt (s : State) (c : BitVec 4) : (s.raiseError c).hcnt = s.hcnt :=
  by
  cases h : s.err <;> simp [State.raiseError, h]
@[simp] theorem State.raiseError_out (s : State) (c : BitVec 4) : (s.raiseError c).out = s.out :=
  by
  cases h : s.err <;> simp [State.raiseError, h]
@[simp] theorem State.raiseError_agenda (s : State) (c : BitVec 4) : (s.raiseError c).agenda = s.agenda :=
  by
  cases h : s.err <;> simp [State.raiseError, h]
@[simp] theorem State.raiseError_tick (s : State) (c : BitVec 4) : (s.raiseError c).tick = s.tick :=
  by
  cases h : s.err <;> simp [State.raiseError, h]
@[simp] theorem State.raiseError_emits (s : State) (c : BitVec 4) : (s.raiseError c).emits = s.emits :=
  by
  cases h : s.err <;> simp [State.raiseError, h]

/-! `clearError`: only ERR and ERRCODE change (20_memory.md R58). -/

@[simp] theorem State.clearError_cfg (s : State) : (s.clearError).cfg = s.cfg := rfl
@[simp] theorem State.clearError_frame (s : State) : (s.clearError).frame = s.frame := rfl
@[simp] theorem State.clearError_count (s : State) : (s.clearError).count = s.count := rfl
@[simp] theorem State.clearError_ready (s : State) : (s.clearError).ready = s.ready := rfl
@[simp] theorem State.clearError_relReq (s : State) : (s.clearError).relReq = s.relReq := rfl
@[simp] theorem State.clearError_acqEn (s : State) : (s.clearError).acqEn = s.acqEn := rfl
@[simp] theorem State.clearError_auto (s : State) : (s.clearError).auto = s.auto := rfl
@[simp] theorem State.clearError_busy (s : State) : (s.clearError).busy = s.busy := rfl
@[simp] theorem State.clearError_pcmd (s : State) : (s.clearError).pcmd = s.pcmd := rfl
@[simp] theorem State.clearError_err (s : State) : (s.clearError).err = false := rfl
@[simp] theorem State.clearError_errcode (s : State) : (s.clearError).errcode = 0 := rfl
@[simp] theorem State.clearError_power (s : State) : (s.clearError).power = s.power := rfl
@[simp] theorem State.clearError_bucket (s : State) : (s.clearError).bucket = s.bucket := rfl
@[simp] theorem State.clearError_active (s : State) : (s.clearError).active = s.active := rfl
@[simp] theorem State.clearError_hcnt (s : State) : (s.clearError).hcnt = s.hcnt := rfl
@[simp] theorem State.clearError_out (s : State) : (s.clearError).out = s.out := rfl
@[simp] theorem State.clearError_agenda (s : State) : (s.clearError).agenda = s.agenda := rfl
@[simp] theorem State.clearError_tick (s : State) : (s.clearError).tick = s.tick := rfl
@[simp] theorem State.clearError_emits (s : State) : (s.clearError).emits = s.emits := rfl

/-! `setCtrl`: only ACQ_EN and AUTO change (20_memory.md R57). -/

@[simp] theorem State.setCtrl_cfg (s : State) (d : Word) : (s.setCtrl d).cfg = s.cfg := rfl
@[simp] theorem State.setCtrl_frame (s : State) (d : Word) : (s.setCtrl d).frame = s.frame := rfl
@[simp] theorem State.setCtrl_count (s : State) (d : Word) : (s.setCtrl d).count = s.count := rfl
@[simp] theorem State.setCtrl_ready (s : State) (d : Word) : (s.setCtrl d).ready = s.ready := rfl
@[simp] theorem State.setCtrl_relReq (s : State) (d : Word) : (s.setCtrl d).relReq = s.relReq := rfl
@[simp] theorem State.setCtrl_acqEn (s : State) (d : Word) : (s.setCtrl d).acqEn = d.getLsbD 0 := rfl
@[simp] theorem State.setCtrl_auto (s : State) (d : Word) : (s.setCtrl d).auto = d.getLsbD 1 := rfl
@[simp] theorem State.setCtrl_busy (s : State) (d : Word) : (s.setCtrl d).busy = s.busy := rfl
@[simp] theorem State.setCtrl_pcmd (s : State) (d : Word) : (s.setCtrl d).pcmd = s.pcmd := rfl
@[simp] theorem State.setCtrl_err (s : State) (d : Word) : (s.setCtrl d).err = s.err := rfl
@[simp] theorem State.setCtrl_errcode (s : State) (d : Word) : (s.setCtrl d).errcode = s.errcode := rfl
@[simp] theorem State.setCtrl_power (s : State) (d : Word) : (s.setCtrl d).power = s.power := rfl
@[simp] theorem State.setCtrl_bucket (s : State) (d : Word) : (s.setCtrl d).bucket = s.bucket := rfl
@[simp] theorem State.setCtrl_active (s : State) (d : Word) : (s.setCtrl d).active = s.active := rfl
@[simp] theorem State.setCtrl_hcnt (s : State) (d : Word) : (s.setCtrl d).hcnt = s.hcnt := rfl
@[simp] theorem State.setCtrl_out (s : State) (d : Word) : (s.setCtrl d).out = s.out := rfl
@[simp] theorem State.setCtrl_agenda (s : State) (d : Word) : (s.setCtrl d).agenda = s.agenda := rfl
@[simp] theorem State.setCtrl_tick (s : State) (d : Word) : (s.setCtrl d).tick = s.tick := rfl
@[simp] theorem State.setCtrl_emits (s : State) (d : Word) : (s.setCtrl d).emits = s.emits := rfl

/-! `setPending`: only PCMD and BUSY change (44_control.md R180). -/

@[simp] theorem State.setPending_cfg (s : State) (w : Word) : (s.setPending w).cfg = s.cfg := rfl
@[simp] theorem State.setPending_frame (s : State) (w : Word) : (s.setPending w).frame = s.frame := rfl
@[simp] theorem State.setPending_count (s : State) (w : Word) : (s.setPending w).count = s.count := rfl
@[simp] theorem State.setPending_ready (s : State) (w : Word) : (s.setPending w).ready = s.ready := rfl
@[simp] theorem State.setPending_relReq (s : State) (w : Word) : (s.setPending w).relReq = s.relReq := rfl
@[simp] theorem State.setPending_acqEn (s : State) (w : Word) : (s.setPending w).acqEn = s.acqEn := rfl
@[simp] theorem State.setPending_auto (s : State) (w : Word) : (s.setPending w).auto = s.auto := rfl
@[simp] theorem State.setPending_busy (s : State) (w : Word) : (s.setPending w).busy = true := rfl
@[simp] theorem State.setPending_pcmd (s : State) (w : Word) : (s.setPending w).pcmd = w := rfl
@[simp] theorem State.setPending_err (s : State) (w : Word) : (s.setPending w).err = s.err := rfl
@[simp] theorem State.setPending_errcode (s : State) (w : Word) : (s.setPending w).errcode = s.errcode := rfl
@[simp] theorem State.setPending_power (s : State) (w : Word) : (s.setPending w).power = s.power := rfl
@[simp] theorem State.setPending_bucket (s : State) (w : Word) : (s.setPending w).bucket = s.bucket := rfl
@[simp] theorem State.setPending_active (s : State) (w : Word) : (s.setPending w).active = s.active := rfl
@[simp] theorem State.setPending_hcnt (s : State) (w : Word) : (s.setPending w).hcnt = s.hcnt := rfl
@[simp] theorem State.setPending_out (s : State) (w : Word) : (s.setPending w).out = s.out := rfl
@[simp] theorem State.setPending_agenda (s : State) (w : Word) : (s.setPending w).agenda = s.agenda := rfl
@[simp] theorem State.setPending_tick (s : State) (w : Word) : (s.setPending w).tick = s.tick := rfl
@[simp] theorem State.setPending_emits (s : State) (w : Word) : (s.setPending w).emits = s.emits := rfl

/-! `setIdle`: only BUSY changes (44_control.md R181). -/

@[simp] theorem State.setIdle_cfg (s : State) : (s.setIdle).cfg = s.cfg := rfl
@[simp] theorem State.setIdle_frame (s : State) : (s.setIdle).frame = s.frame := rfl
@[simp] theorem State.setIdle_count (s : State) : (s.setIdle).count = s.count := rfl
@[simp] theorem State.setIdle_ready (s : State) : (s.setIdle).ready = s.ready := rfl
@[simp] theorem State.setIdle_relReq (s : State) : (s.setIdle).relReq = s.relReq := rfl
@[simp] theorem State.setIdle_acqEn (s : State) : (s.setIdle).acqEn = s.acqEn := rfl
@[simp] theorem State.setIdle_auto (s : State) : (s.setIdle).auto = s.auto := rfl
@[simp] theorem State.setIdle_busy (s : State) : (s.setIdle).busy = false := rfl
@[simp] theorem State.setIdle_pcmd (s : State) : (s.setIdle).pcmd = s.pcmd := rfl
@[simp] theorem State.setIdle_err (s : State) : (s.setIdle).err = s.err := rfl
@[simp] theorem State.setIdle_errcode (s : State) : (s.setIdle).errcode = s.errcode := rfl
@[simp] theorem State.setIdle_power (s : State) : (s.setIdle).power = s.power := rfl
@[simp] theorem State.setIdle_bucket (s : State) : (s.setIdle).bucket = s.bucket := rfl
@[simp] theorem State.setIdle_active (s : State) : (s.setIdle).active = s.active := rfl
@[simp] theorem State.setIdle_hcnt (s : State) : (s.setIdle).hcnt = s.hcnt := rfl
@[simp] theorem State.setIdle_out (s : State) : (s.setIdle).out = s.out := rfl
@[simp] theorem State.setIdle_agenda (s : State) : (s.setIdle).agenda = s.agenda := rfl
@[simp] theorem State.setIdle_tick (s : State) : (s.setIdle).tick = s.tick := rfl
@[simp] theorem State.setIdle_emits (s : State) : (s.setIdle).emits = s.emits := rfl

/-! `storeSample`: only FRAME and count change (40_acquisition.md R100). -/

@[simp] theorem State.storeSample_cfg (s : State) (v : Int) : (s.storeSample v).cfg = s.cfg := rfl
@[simp] theorem State.storeSample_frame (s : State) (v : Int) : (s.storeSample v).frame = s.frame.write s.count v := rfl
@[simp] theorem State.storeSample_count (s : State) (v : Int) : (s.storeSample v).count = s.count + 1 := rfl
@[simp] theorem State.storeSample_ready (s : State) (v : Int) : (s.storeSample v).ready = s.ready := rfl
@[simp] theorem State.storeSample_relReq (s : State) (v : Int) : (s.storeSample v).relReq = s.relReq := rfl
@[simp] theorem State.storeSample_acqEn (s : State) (v : Int) : (s.storeSample v).acqEn = s.acqEn := rfl
@[simp] theorem State.storeSample_auto (s : State) (v : Int) : (s.storeSample v).auto = s.auto := rfl
@[simp] theorem State.storeSample_busy (s : State) (v : Int) : (s.storeSample v).busy = s.busy := rfl
@[simp] theorem State.storeSample_pcmd (s : State) (v : Int) : (s.storeSample v).pcmd = s.pcmd := rfl
@[simp] theorem State.storeSample_err (s : State) (v : Int) : (s.storeSample v).err = s.err := rfl
@[simp] theorem State.storeSample_errcode (s : State) (v : Int) : (s.storeSample v).errcode = s.errcode := rfl
@[simp] theorem State.storeSample_power (s : State) (v : Int) : (s.storeSample v).power = s.power := rfl
@[simp] theorem State.storeSample_bucket (s : State) (v : Int) : (s.storeSample v).bucket = s.bucket := rfl
@[simp] theorem State.storeSample_active (s : State) (v : Int) : (s.storeSample v).active = s.active := rfl
@[simp] theorem State.storeSample_hcnt (s : State) (v : Int) : (s.storeSample v).hcnt = s.hcnt := rfl
@[simp] theorem State.storeSample_out (s : State) (v : Int) : (s.storeSample v).out = s.out := rfl
@[simp] theorem State.storeSample_agenda (s : State) (v : Int) : (s.storeSample v).agenda = s.agenda := rfl
@[simp] theorem State.storeSample_tick (s : State) (v : Int) : (s.storeSample v).tick = s.tick := rfl
@[simp] theorem State.storeSample_emits (s : State) (v : Int) : (s.storeSample v).emits = s.emits := rfl

/-! `raiseReady`: only READY changes (40_acquisition.md R103). -/

@[simp] theorem State.raiseReady_cfg (s : State) : (s.raiseReady).cfg = s.cfg := rfl
@[simp] theorem State.raiseReady_frame (s : State) : (s.raiseReady).frame = s.frame := rfl
@[simp] theorem State.raiseReady_count (s : State) : (s.raiseReady).count = s.count := rfl
@[simp] theorem State.raiseReady_ready (s : State) : (s.raiseReady).ready = true := rfl
@[simp] theorem State.raiseReady_relReq (s : State) : (s.raiseReady).relReq = s.relReq := rfl
@[simp] theorem State.raiseReady_acqEn (s : State) : (s.raiseReady).acqEn = s.acqEn := rfl
@[simp] theorem State.raiseReady_auto (s : State) : (s.raiseReady).auto = s.auto := rfl
@[simp] theorem State.raiseReady_busy (s : State) : (s.raiseReady).busy = s.busy := rfl
@[simp] theorem State.raiseReady_pcmd (s : State) : (s.raiseReady).pcmd = s.pcmd := rfl
@[simp] theorem State.raiseReady_err (s : State) : (s.raiseReady).err = s.err := rfl
@[simp] theorem State.raiseReady_errcode (s : State) : (s.raiseReady).errcode = s.errcode := rfl
@[simp] theorem State.raiseReady_power (s : State) : (s.raiseReady).power = s.power := rfl
@[simp] theorem State.raiseReady_bucket (s : State) : (s.raiseReady).bucket = s.bucket := rfl
@[simp] theorem State.raiseReady_active (s : State) : (s.raiseReady).active = s.active := rfl
@[simp] theorem State.raiseReady_hcnt (s : State) : (s.raiseReady).hcnt = s.hcnt := rfl
@[simp] theorem State.raiseReady_out (s : State) : (s.raiseReady).out = s.out := rfl
@[simp] theorem State.raiseReady_agenda (s : State) : (s.raiseReady).agenda = s.agenda := rfl
@[simp] theorem State.raiseReady_tick (s : State) : (s.raiseReady).tick = s.tick := rfl
@[simp] theorem State.raiseReady_emits (s : State) : (s.raiseReady).emits = s.emits := rfl

/-! `restart`: only count and REL_REQ change (40_acquisition.md R104). -/

@[simp] theorem State.restart_cfg (s : State) : (s.restart).cfg = s.cfg := rfl
@[simp] theorem State.restart_frame (s : State) : (s.restart).frame = s.frame := rfl
@[simp] theorem State.restart_count (s : State) : (s.restart).count = 0 := rfl
@[simp] theorem State.restart_ready (s : State) : (s.restart).ready = s.ready := rfl
@[simp] theorem State.restart_relReq (s : State) : (s.restart).relReq = false := rfl
@[simp] theorem State.restart_acqEn (s : State) : (s.restart).acqEn = s.acqEn := rfl
@[simp] theorem State.restart_auto (s : State) : (s.restart).auto = s.auto := rfl
@[simp] theorem State.restart_busy (s : State) : (s.restart).busy = s.busy := rfl
@[simp] theorem State.restart_pcmd (s : State) : (s.restart).pcmd = s.pcmd := rfl
@[simp] theorem State.restart_err (s : State) : (s.restart).err = s.err := rfl
@[simp] theorem State.restart_errcode (s : State) : (s.restart).errcode = s.errcode := rfl
@[simp] theorem State.restart_power (s : State) : (s.restart).power = s.power := rfl
@[simp] theorem State.restart_bucket (s : State) : (s.restart).bucket = s.bucket := rfl
@[simp] theorem State.restart_active (s : State) : (s.restart).active = s.active := rfl
@[simp] theorem State.restart_hcnt (s : State) : (s.restart).hcnt = s.hcnt := rfl
@[simp] theorem State.restart_out (s : State) : (s.restart).out = s.out := rfl
@[simp] theorem State.restart_agenda (s : State) : (s.restart).agenda = s.agenda := rfl
@[simp] theorem State.restart_tick (s : State) : (s.restart).tick = s.tick := rfl
@[simp] theorem State.restart_emits (s : State) : (s.restart).emits = s.emits := rfl

/-! `release`: only READY and REL_REQ change (40_acquisition.md R105). -/

@[simp] theorem State.release_cfg (s : State) : (s.release).cfg = s.cfg := rfl
@[simp] theorem State.release_frame (s : State) : (s.release).frame = s.frame := rfl
@[simp] theorem State.release_count (s : State) : (s.release).count = s.count := rfl
@[simp] theorem State.release_ready (s : State) : (s.release).ready = false := rfl
@[simp] theorem State.release_relReq (s : State) : (s.release).relReq = true := rfl
@[simp] theorem State.release_acqEn (s : State) : (s.release).acqEn = s.acqEn := rfl
@[simp] theorem State.release_auto (s : State) : (s.release).auto = s.auto := rfl
@[simp] theorem State.release_busy (s : State) : (s.release).busy = s.busy := rfl
@[simp] theorem State.release_pcmd (s : State) : (s.release).pcmd = s.pcmd := rfl
@[simp] theorem State.release_err (s : State) : (s.release).err = s.err := rfl
@[simp] theorem State.release_errcode (s : State) : (s.release).errcode = s.errcode := rfl
@[simp] theorem State.release_power (s : State) : (s.release).power = s.power := rfl
@[simp] theorem State.release_bucket (s : State) : (s.release).bucket = s.bucket := rfl
@[simp] theorem State.release_active (s : State) : (s.release).active = s.active := rfl
@[simp] theorem State.release_hcnt (s : State) : (s.release).hcnt = s.hcnt := rfl
@[simp] theorem State.release_out (s : State) : (s.release).out = s.out := rfl
@[simp] theorem State.release_agenda (s : State) : (s.release).agenda = s.agenda := rfl
@[simp] theorem State.release_tick (s : State) : (s.release).tick = s.tick := rfl
@[simp] theorem State.release_emits (s : State) : (s.release).emits = s.emits := rfl

/-! `foldBuckets`: only BUCKET changes (42_band_mapper.md R141). -/

@[simp] theorem State.foldBuckets_cfg (s : State) : (s.foldBuckets).cfg = s.cfg := rfl
@[simp] theorem State.foldBuckets_frame (s : State) : (s.foldBuckets).frame = s.frame := rfl
@[simp] theorem State.foldBuckets_count (s : State) : (s.foldBuckets).count = s.count := rfl
@[simp] theorem State.foldBuckets_ready (s : State) : (s.foldBuckets).ready = s.ready := rfl
@[simp] theorem State.foldBuckets_relReq (s : State) : (s.foldBuckets).relReq = s.relReq := rfl
@[simp] theorem State.foldBuckets_acqEn (s : State) : (s.foldBuckets).acqEn = s.acqEn := rfl
@[simp] theorem State.foldBuckets_auto (s : State) : (s.foldBuckets).auto = s.auto := rfl
@[simp] theorem State.foldBuckets_busy (s : State) : (s.foldBuckets).busy = s.busy := rfl
@[simp] theorem State.foldBuckets_pcmd (s : State) : (s.foldBuckets).pcmd = s.pcmd := rfl
@[simp] theorem State.foldBuckets_err (s : State) : (s.foldBuckets).err = s.err := rfl
@[simp] theorem State.foldBuckets_errcode (s : State) : (s.foldBuckets).errcode = s.errcode := rfl
@[simp] theorem State.foldBuckets_power (s : State) : (s.foldBuckets).power = s.power := rfl
@[simp] theorem State.foldBuckets_active (s : State) : (s.foldBuckets).active = s.active := rfl
@[simp] theorem State.foldBuckets_hcnt (s : State) : (s.foldBuckets).hcnt = s.hcnt := rfl
@[simp] theorem State.foldBuckets_out (s : State) : (s.foldBuckets).out = s.out := rfl
@[simp] theorem State.foldBuckets_agenda (s : State) : (s.foldBuckets).agenda = s.agenda := rfl
@[simp] theorem State.foldBuckets_tick (s : State) : (s.foldBuckets).tick = s.tick := rfl
@[simp] theorem State.foldBuckets_emits (s : State) : (s.foldBuckets).emits = s.emits := rfl

/-! `dftBin`: only POWER changes (41_spectral.md R128). -/

@[simp] theorem State.dftBin_cfg (s : State) (k : Nat) : (s.dftBin k).cfg = s.cfg := rfl
@[simp] theorem State.dftBin_frame (s : State) (k : Nat) : (s.dftBin k).frame = s.frame := rfl
@[simp] theorem State.dftBin_count (s : State) (k : Nat) : (s.dftBin k).count = s.count := rfl
@[simp] theorem State.dftBin_ready (s : State) (k : Nat) : (s.dftBin k).ready = s.ready := rfl
@[simp] theorem State.dftBin_relReq (s : State) (k : Nat) : (s.dftBin k).relReq = s.relReq := rfl
@[simp] theorem State.dftBin_acqEn (s : State) (k : Nat) : (s.dftBin k).acqEn = s.acqEn := rfl
@[simp] theorem State.dftBin_auto (s : State) (k : Nat) : (s.dftBin k).auto = s.auto := rfl
@[simp] theorem State.dftBin_busy (s : State) (k : Nat) : (s.dftBin k).busy = s.busy := rfl
@[simp] theorem State.dftBin_pcmd (s : State) (k : Nat) : (s.dftBin k).pcmd = s.pcmd := rfl
@[simp] theorem State.dftBin_err (s : State) (k : Nat) : (s.dftBin k).err = s.err := rfl
@[simp] theorem State.dftBin_errcode (s : State) (k : Nat) : (s.dftBin k).errcode = s.errcode := rfl
@[simp] theorem State.dftBin_power (s : State) (k : Nat) : (s.dftBin k).power = s.power.set k (s.powerWord k) := rfl
@[simp] theorem State.dftBin_bucket (s : State) (k : Nat) : (s.dftBin k).bucket = s.bucket := rfl
@[simp] theorem State.dftBin_active (s : State) (k : Nat) : (s.dftBin k).active = s.active := rfl
@[simp] theorem State.dftBin_hcnt (s : State) (k : Nat) : (s.dftBin k).hcnt = s.hcnt := rfl
@[simp] theorem State.dftBin_out (s : State) (k : Nat) : (s.dftBin k).out = s.out := rfl
@[simp] theorem State.dftBin_agenda (s : State) (k : Nat) : (s.dftBin k).agenda = s.agenda := rfl
@[simp] theorem State.dftBin_tick (s : State) (k : Nat) : (s.dftBin k).tick = s.tick := rfl
@[simp] theorem State.dftBin_emits (s : State) (k : Nat) : (s.dftBin k).emits = s.emits := rfl

/-! `dftBins`: only POWER changes (41_spectral.md R127). -/

@[simp] theorem State.dftBins_cfg (s : State) : (s.dftBins).cfg = s.cfg := rfl
@[simp] theorem State.dftBins_frame (s : State) : (s.dftBins).frame = s.frame := rfl
@[simp] theorem State.dftBins_count (s : State) : (s.dftBins).count = s.count := rfl
@[simp] theorem State.dftBins_ready (s : State) : (s.dftBins).ready = s.ready := rfl
@[simp] theorem State.dftBins_relReq (s : State) : (s.dftBins).relReq = s.relReq := rfl
@[simp] theorem State.dftBins_acqEn (s : State) : (s.dftBins).acqEn = s.acqEn := rfl
@[simp] theorem State.dftBins_auto (s : State) : (s.dftBins).auto = s.auto := rfl
@[simp] theorem State.dftBins_busy (s : State) : (s.dftBins).busy = s.busy := rfl
@[simp] theorem State.dftBins_pcmd (s : State) : (s.dftBins).pcmd = s.pcmd := rfl
@[simp] theorem State.dftBins_err (s : State) : (s.dftBins).err = s.err := rfl
@[simp] theorem State.dftBins_errcode (s : State) : (s.dftBins).errcode = s.errcode := rfl
@[simp] theorem State.dftBins_bucket (s : State) : (s.dftBins).bucket = s.bucket := rfl
@[simp] theorem State.dftBins_active (s : State) : (s.dftBins).active = s.active := rfl
@[simp] theorem State.dftBins_hcnt (s : State) : (s.dftBins).hcnt = s.hcnt := rfl
@[simp] theorem State.dftBins_out (s : State) : (s.dftBins).out = s.out := rfl
@[simp] theorem State.dftBins_agenda (s : State) : (s.dftBins).agenda = s.agenda := rfl
@[simp] theorem State.dftBins_tick (s : State) : (s.dftBins).tick = s.tick := rfl
@[simp] theorem State.dftBins_emits (s : State) : (s.dftBins).emits = s.emits := rfl

/-! `dftAll`: only POWER and BUCKET change (41_spectral.md R127). -/

@[simp] theorem State.dftAll_cfg (s : State) : (s.dftAll).cfg = s.cfg := rfl
@[simp] theorem State.dftAll_frame (s : State) : (s.dftAll).frame = s.frame := rfl
@[simp] theorem State.dftAll_count (s : State) : (s.dftAll).count = s.count := rfl
@[simp] theorem State.dftAll_ready (s : State) : (s.dftAll).ready = s.ready := rfl
@[simp] theorem State.dftAll_relReq (s : State) : (s.dftAll).relReq = s.relReq := rfl
@[simp] theorem State.dftAll_acqEn (s : State) : (s.dftAll).acqEn = s.acqEn := rfl
@[simp] theorem State.dftAll_auto (s : State) : (s.dftAll).auto = s.auto := rfl
@[simp] theorem State.dftAll_busy (s : State) : (s.dftAll).busy = s.busy := rfl
@[simp] theorem State.dftAll_pcmd (s : State) : (s.dftAll).pcmd = s.pcmd := rfl
@[simp] theorem State.dftAll_err (s : State) : (s.dftAll).err = s.err := rfl
@[simp] theorem State.dftAll_errcode (s : State) : (s.dftAll).errcode = s.errcode := rfl
@[simp] theorem State.dftAll_active (s : State) : (s.dftAll).active = s.active := rfl
@[simp] theorem State.dftAll_hcnt (s : State) : (s.dftAll).hcnt = s.hcnt := rfl
@[simp] theorem State.dftAll_out (s : State) : (s.dftAll).out = s.out := rfl
@[simp] theorem State.dftAll_agenda (s : State) : (s.dftAll).agenda = s.agenda := rfl
@[simp] theorem State.dftAll_tick (s : State) : (s.dftAll).tick = s.tick := rfl
@[simp] theorem State.dftAll_emits (s : State) : (s.dftAll).emits = s.emits := rfl

/-! `mapAll`: only ACTIVE changes (42_band_mapper.md R144). -/

@[simp] theorem State.mapAll_cfg (s : State) : (s.mapAll).cfg = s.cfg := rfl
@[simp] theorem State.mapAll_frame (s : State) : (s.mapAll).frame = s.frame := rfl
@[simp] theorem State.mapAll_count (s : State) : (s.mapAll).count = s.count := rfl
@[simp] theorem State.mapAll_ready (s : State) : (s.mapAll).ready = s.ready := rfl
@[simp] theorem State.mapAll_relReq (s : State) : (s.mapAll).relReq = s.relReq := rfl
@[simp] theorem State.mapAll_acqEn (s : State) : (s.mapAll).acqEn = s.acqEn := rfl
@[simp] theorem State.mapAll_auto (s : State) : (s.mapAll).auto = s.auto := rfl
@[simp] theorem State.mapAll_busy (s : State) : (s.mapAll).busy = s.busy := rfl
@[simp] theorem State.mapAll_pcmd (s : State) : (s.mapAll).pcmd = s.pcmd := rfl
@[simp] theorem State.mapAll_err (s : State) : (s.mapAll).err = s.err := rfl
@[simp] theorem State.mapAll_errcode (s : State) : (s.mapAll).errcode = s.errcode := rfl
@[simp] theorem State.mapAll_power (s : State) : (s.mapAll).power = s.power := rfl
@[simp] theorem State.mapAll_bucket (s : State) : (s.mapAll).bucket = s.bucket := rfl
@[simp] theorem State.mapAll_hcnt (s : State) : (s.mapAll).hcnt = s.hcnt := rfl
@[simp] theorem State.mapAll_out (s : State) : (s.mapAll).out = s.out := rfl
@[simp] theorem State.mapAll_agenda (s : State) : (s.mapAll).agenda = s.agenda := rfl
@[simp] theorem State.mapAll_tick (s : State) : (s.mapAll).tick = s.tick := rfl
@[simp] theorem State.mapAll_emits (s : State) : (s.mapAll).emits = s.emits := rfl

/-! `setActive`: only ACTIVE changes (42_band_mapper.md R145). -/

@[simp] theorem State.setActive_cfg (s : State) (c : Nat) (v : Bool) : (s.setActive c v).cfg = s.cfg := rfl
@[simp] theorem State.setActive_frame (s : State) (c : Nat) (v : Bool) : (s.setActive c v).frame = s.frame := rfl
@[simp] theorem State.setActive_count (s : State) (c : Nat) (v : Bool) : (s.setActive c v).count = s.count := rfl
@[simp] theorem State.setActive_ready (s : State) (c : Nat) (v : Bool) : (s.setActive c v).ready = s.ready := rfl
@[simp] theorem State.setActive_relReq (s : State) (c : Nat) (v : Bool) : (s.setActive c v).relReq = s.relReq := rfl
@[simp] theorem State.setActive_acqEn (s : State) (c : Nat) (v : Bool) : (s.setActive c v).acqEn = s.acqEn := rfl
@[simp] theorem State.setActive_auto (s : State) (c : Nat) (v : Bool) : (s.setActive c v).auto = s.auto := rfl
@[simp] theorem State.setActive_busy (s : State) (c : Nat) (v : Bool) : (s.setActive c v).busy = s.busy := rfl
@[simp] theorem State.setActive_pcmd (s : State) (c : Nat) (v : Bool) : (s.setActive c v).pcmd = s.pcmd := rfl
@[simp] theorem State.setActive_err (s : State) (c : Nat) (v : Bool) : (s.setActive c v).err = s.err := rfl
@[simp] theorem State.setActive_errcode (s : State) (c : Nat) (v : Bool) : (s.setActive c v).errcode = s.errcode := rfl
@[simp] theorem State.setActive_power (s : State) (c : Nat) (v : Bool) : (s.setActive c v).power = s.power := rfl
@[simp] theorem State.setActive_bucket (s : State) (c : Nat) (v : Bool) : (s.setActive c v).bucket = s.bucket := rfl
@[simp] theorem State.setActive_active (s : State) (c : Nat) (v : Bool) : (s.setActive c v).active = s.active.set c v :=
  rfl
@[simp] theorem State.setActive_hcnt (s : State) (c : Nat) (v : Bool) : (s.setActive c v).hcnt = s.hcnt := rfl
@[simp] theorem State.setActive_out (s : State) (c : Nat) (v : Bool) : (s.setActive c v).out = s.out := rfl
@[simp] theorem State.setActive_agenda (s : State) (c : Nat) (v : Bool) : (s.setActive c v).agenda = s.agenda := rfl
@[simp] theorem State.setActive_tick (s : State) (c : Nat) (v : Bool) : (s.setActive c v).tick = s.tick := rfl
@[simp] theorem State.setActive_emits (s : State) (c : Nat) (v : Bool) : (s.setActive c v).emits = s.emits := rfl

/-! `hystAll`: only HCNT and OUT change (43_hysteresis.md R162). -/

@[simp] theorem State.hystAll_cfg (s : State) : (s.hystAll).cfg = s.cfg := rfl
@[simp] theorem State.hystAll_frame (s : State) : (s.hystAll).frame = s.frame := rfl
@[simp] theorem State.hystAll_count (s : State) : (s.hystAll).count = s.count := rfl
@[simp] theorem State.hystAll_ready (s : State) : (s.hystAll).ready = s.ready := rfl
@[simp] theorem State.hystAll_relReq (s : State) : (s.hystAll).relReq = s.relReq := rfl
@[simp] theorem State.hystAll_acqEn (s : State) : (s.hystAll).acqEn = s.acqEn := rfl
@[simp] theorem State.hystAll_auto (s : State) : (s.hystAll).auto = s.auto := rfl
@[simp] theorem State.hystAll_busy (s : State) : (s.hystAll).busy = s.busy := rfl
@[simp] theorem State.hystAll_pcmd (s : State) : (s.hystAll).pcmd = s.pcmd := rfl
@[simp] theorem State.hystAll_err (s : State) : (s.hystAll).err = s.err := rfl
@[simp] theorem State.hystAll_errcode (s : State) : (s.hystAll).errcode = s.errcode := rfl
@[simp] theorem State.hystAll_power (s : State) : (s.hystAll).power = s.power := rfl
@[simp] theorem State.hystAll_bucket (s : State) : (s.hystAll).bucket = s.bucket := rfl
@[simp] theorem State.hystAll_active (s : State) : (s.hystAll).active = s.active := rfl
@[simp] theorem State.hystAll_agenda (s : State) : (s.hystAll).agenda = s.agenda := rfl
@[simp] theorem State.hystAll_tick (s : State) : (s.hystAll).tick = s.tick := rfl
@[simp] theorem State.hystAll_emits (s : State) : (s.hystAll).emits = s.emits := rfl

/-! `clearBank`: only HCNT and OUT change (43_hysteresis.md R163). -/

@[simp] theorem State.clearBank_cfg (s : State) : (s.clearBank).cfg = s.cfg := rfl
@[simp] theorem State.clearBank_frame (s : State) : (s.clearBank).frame = s.frame := rfl
@[simp] theorem State.clearBank_count (s : State) : (s.clearBank).count = s.count := rfl
@[simp] theorem State.clearBank_ready (s : State) : (s.clearBank).ready = s.ready := rfl
@[simp] theorem State.clearBank_relReq (s : State) : (s.clearBank).relReq = s.relReq := rfl
@[simp] theorem State.clearBank_acqEn (s : State) : (s.clearBank).acqEn = s.acqEn := rfl
@[simp] theorem State.clearBank_auto (s : State) : (s.clearBank).auto = s.auto := rfl
@[simp] theorem State.clearBank_busy (s : State) : (s.clearBank).busy = s.busy := rfl
@[simp] theorem State.clearBank_pcmd (s : State) : (s.clearBank).pcmd = s.pcmd := rfl
@[simp] theorem State.clearBank_err (s : State) : (s.clearBank).err = s.err := rfl
@[simp] theorem State.clearBank_errcode (s : State) : (s.clearBank).errcode = s.errcode := rfl
@[simp] theorem State.clearBank_power (s : State) : (s.clearBank).power = s.power := rfl
@[simp] theorem State.clearBank_bucket (s : State) : (s.clearBank).bucket = s.bucket := rfl
@[simp] theorem State.clearBank_active (s : State) : (s.clearBank).active = s.active := rfl
@[simp] theorem State.clearBank_hcnt (s : State) : (s.clearBank).hcnt = List.replicate s.cfg.numCh 0 := rfl
@[simp] theorem State.clearBank_out (s : State) : (s.clearBank).out = List.replicate s.cfg.numCh false := rfl
@[simp] theorem State.clearBank_agenda (s : State) : (s.clearBank).agenda = s.agenda := rfl
@[simp] theorem State.clearBank_tick (s : State) : (s.clearBank).tick = s.tick := rfl
@[simp] theorem State.clearBank_emits (s : State) : (s.clearBank).emits = s.emits := rfl

/-! `withPending`: a pending word, and EXEC next. -/

@[simp] theorem State.withPending_cfg (s : State) (w : Word) : (s.withPending w).cfg = s.cfg := rfl
@[simp] theorem State.withPending_frame (s : State) (w : Word) : (s.withPending w).frame = s.frame := rfl
@[simp] theorem State.withPending_count (s : State) (w : Word) : (s.withPending w).count = s.count := rfl
@[simp] theorem State.withPending_ready (s : State) (w : Word) : (s.withPending w).ready = s.ready := rfl
@[simp] theorem State.withPending_relReq (s : State) (w : Word) : (s.withPending w).relReq = s.relReq := rfl
@[simp] theorem State.withPending_acqEn (s : State) (w : Word) : (s.withPending w).acqEn = s.acqEn := rfl
@[simp] theorem State.withPending_auto (s : State) (w : Word) : (s.withPending w).auto = s.auto := rfl
@[simp] theorem State.withPending_busy (s : State) (w : Word) : (s.withPending w).busy = true := rfl
@[simp] theorem State.withPending_pcmd (s : State) (w : Word) : (s.withPending w).pcmd = w := rfl
@[simp] theorem State.withPending_err (s : State) (w : Word) : (s.withPending w).err = s.err := rfl
@[simp] theorem State.withPending_errcode (s : State) (w : Word) : (s.withPending w).errcode = s.errcode := rfl
@[simp] theorem State.withPending_power (s : State) (w : Word) : (s.withPending w).power = s.power := rfl
@[simp] theorem State.withPending_bucket (s : State) (w : Word) : (s.withPending w).bucket = s.bucket := rfl
@[simp] theorem State.withPending_active (s : State) (w : Word) : (s.withPending w).active = s.active := rfl
@[simp] theorem State.withPending_hcnt (s : State) (w : Word) : (s.withPending w).hcnt = s.hcnt := rfl
@[simp] theorem State.withPending_out (s : State) (w : Word) : (s.withPending w).out = s.out := rfl
@[simp] theorem State.withPending_agenda (s : State) (w : Word) : (s.withPending w).agenda = .exec :: s.agenda := rfl
@[simp] theorem State.withPending_tick (s : State) (w : Word) : (s.withPending w).tick = s.tick := rfl
@[simp] theorem State.withPending_emits (s : State) (w : Word) : (s.withPending w).emits = s.emits := rfl

/-! `withAgenda`: a given schedule. -/

@[simp] theorem State.withAgenda_cfg (s : State) (es : List Event) : (s.withAgenda es).cfg = s.cfg := rfl
@[simp] theorem State.withAgenda_frame (s : State) (es : List Event) : (s.withAgenda es).frame = s.frame := rfl
@[simp] theorem State.withAgenda_count (s : State) (es : List Event) : (s.withAgenda es).count = s.count := rfl
@[simp] theorem State.withAgenda_ready (s : State) (es : List Event) : (s.withAgenda es).ready = s.ready := rfl
@[simp] theorem State.withAgenda_relReq (s : State) (es : List Event) : (s.withAgenda es).relReq = s.relReq := rfl
@[simp] theorem State.withAgenda_acqEn (s : State) (es : List Event) : (s.withAgenda es).acqEn = s.acqEn := rfl
@[simp] theorem State.withAgenda_auto (s : State) (es : List Event) : (s.withAgenda es).auto = s.auto := rfl
@[simp] theorem State.withAgenda_busy (s : State) (es : List Event) : (s.withAgenda es).busy = s.busy := rfl
@[simp] theorem State.withAgenda_pcmd (s : State) (es : List Event) : (s.withAgenda es).pcmd = s.pcmd := rfl
@[simp] theorem State.withAgenda_err (s : State) (es : List Event) : (s.withAgenda es).err = s.err := rfl
@[simp] theorem State.withAgenda_errcode (s : State) (es : List Event) : (s.withAgenda es).errcode = s.errcode := rfl
@[simp] theorem State.withAgenda_power (s : State) (es : List Event) : (s.withAgenda es).power = s.power := rfl
@[simp] theorem State.withAgenda_bucket (s : State) (es : List Event) : (s.withAgenda es).bucket = s.bucket := rfl
@[simp] theorem State.withAgenda_active (s : State) (es : List Event) : (s.withAgenda es).active = s.active := rfl
@[simp] theorem State.withAgenda_hcnt (s : State) (es : List Event) : (s.withAgenda es).hcnt = s.hcnt := rfl
@[simp] theorem State.withAgenda_out (s : State) (es : List Event) : (s.withAgenda es).out = s.out := rfl
@[simp] theorem State.withAgenda_agenda (s : State) (es : List Event) : (s.withAgenda es).agenda = es := rfl
@[simp] theorem State.withAgenda_tick (s : State) (es : List Event) : (s.withAgenda es).tick = s.tick := rfl
@[simp] theorem State.withAgenda_emits (s : State) (es : List Event) : (s.withAgenda es).emits = s.emits := rfl

end Sys2Proof.Machine
end

