-- ==== Sys2Proof/Laws/Ops.lean ====
section
/-! SUPPORT. One lemma per shared operation: what it answers, in the terms the statements use. -/

namespace Sys2Proof.Machine

/-- The k-th entry of a table built over 0..n-1. -/
@[simp] theorem getD_map_range {α : Type} (f : Nat → α) (d : α) {n k : Nat} (h : k < n) :
    ((List.range n).map f).getD k d = f k := by
  have hr : (List.range n)[k]? = some k := List.getElem?_range h
  rw [List.getD_eq_getElem?_getD, List.getElem?_map, hr]
  rfl

/-- The value on the sample port is in SMIN..SMAX (40_acquisition.md R100). -/
theorem adcValue_range (cfg : Config) (data : BitVec 16) :
    cfg.smin ≤ adcValue cfg data ∧ adcValue cfg data ≤ cfg.smax := by
  have h1 := BitVec.le_toInt (data.setWidth cfg.sb)
  have h2 := BitVec.toInt_lt (x := data.setWidth cfg.sb)
  simp only [adcValue, Config.smin, Config.smax]
  omega

/-- A sample the engine reads is in SMIN..SMAX, whether the slot was written or not. -/
theorem State.sampleAt_range {s : State} (hf : s.frameOk) (n : Nat) :
    s.cfg.smin ≤ s.sampleAt n ∧ s.sampleAt n ≤ s.cfg.smax := by
  unfold State.sampleAt
  split
  · next v hv => exact (hf.2 _ (Memory.mem_of_read hv)).2
  · exact adcValue_range s.cfg _

/-- A step of a machine whose configuration is well formed is the next event's (00_scope.md R13). -/
theorem step_eq_perform {s : State} (h : s.cfg.wf) : step s = perform s.nextEvent s.advance := by
  simp only [step, stepAny, if_pos h]

/-- What `finish` does to a next state (44_control.md R181). -/
theorem finish_next_iff {o : Host.Outcome State Fault Refusal} {t : State} :
    finish o = .next t ↔ ∃ u, o = .next u ∧ t = u.setIdle := by
  cases o with
  | next u => simp [finish, eq_comm]
  | fault f => simp [finish]
  | refused r => simp [finish]

/-- What each kind of step can do: the one inversion lemma of `perform`. -/
theorem perform_next_cases {e : Event} {s t : State} (h : perform e s = .next t) :
    (∃ addr, e = .busRead addr ∧ t = busRead addr s) ∨
    (∃ addr d, e = .busWrite addr d ∧ t = busWrite addr d s) ∨
    (∃ data, e = .sample data ∧ t = sampleEvent data s) ∨
    (e = .syncA2C ∧ t = syncA2C s) ∨ (e = .syncC2A ∧ t = syncC2A s) ∨
    (e = .exec ∧ engineExec s = .next t) ∨
    (e = .autoIssue ∧ t = autoIssue s) ∨ (e = .reset ∧ t = resetEvent s) := by
  cases e with
  | busRead addr => cases h; exact .inl ⟨_, rfl, rfl⟩
  | busWrite addr d => cases h; exact .inr (.inl ⟨_, _, rfl, rfl⟩)
  | sample data => cases h; exact .inr (.inr (.inl ⟨_, rfl, rfl⟩))
  | syncA2C => cases h; simp
  | syncC2A => cases h; simp
  | exec => simpa [perform] using h
  | autoIssue => cases h; simp
  | reset => cases h; simp

/-- What the engine step can do: nothing while BUSY = 0, else the decoded command and BUSY <- 0 (44_control.md R181). -/
theorem engineExec_next_cases {s t : State} (h : engineExec s = .next t) :
    (s.busy = false ∧ t = s) ∨
    (s.busy = true ∧ ∃ i u, decode s.cfg s.pcmd = .ok i ∧ exec i s = .next u ∧ t = u.setIdle) := by
  unfold engineExec at h
  split at h
  · next hb =>
    split at h
    · next i hi =>
      obtain ⟨u, hu, ht⟩ := finish_next_iff.1 h
      exact .inr ⟨hb, i, u, hi, hu, ht⟩
    · cases h
  · next hb => cases h; exact .inl ⟨by simpa using hb, rfl⟩

/-- What a host write can do: CTRL, STATUS and CMD react, nothing else does (44_control.md R187). -/
theorem busWrite_cases (addr : Addr) (d : Word) (s : State) :
    (regOf addr = .ctrl ∧ busWrite addr d s = writeCtrl d s) ∨
    (regOf addr = .status ∧ busWrite addr d s = writeStatus d s) ∨
    (regOf addr = .cmd ∧ busWrite addr d s = issue d s) ∨
    ((regOf addr ≠ .ctrl ∧ regOf addr ≠ .status ∧ regOf addr ≠ .cmd) ∧ busWrite addr d s = s) := by
  unfold busWrite
  cases regOf addr <;> simp [writeReg]

/-- What a sample event can do: it is stored, or dropped (40_acquisition.md R100). -/
theorem sampleEvent_cases (data : BitVec 16) (s : State) :
    ((s.acqEn = true ∧ s.count < s.cfg.n) ∧
      sampleEvent data s = (s.storeSample (adcValue s.cfg data)).emitStartIf (decide (s.count + 1 < s.cfg.n))) ∨
    (¬(s.acqEn = true ∧ s.count < s.cfg.n) ∧ sampleEvent data s = s) := by
  unfold sampleEvent
  split
  · next h => exact .inl ⟨h, rfl⟩
  · next h => exact .inr ⟨h, rfl⟩

/-- What SYNC_A2C can do (40_acquisition.md R103). -/
theorem syncA2C_cases (s : State) :
    ((s.count = s.cfg.n ∧ s.relReq = false ∧ s.ready = false) ∧ syncA2C s = s.raiseReady) ∨
    (¬(s.count = s.cfg.n ∧ s.relReq = false ∧ s.ready = false) ∧ syncA2C s = s) := by
  have h : s.a2cEnabled = true ↔ s.count = s.cfg.n ∧ s.relReq = false ∧ s.ready = false := by
    simp [State.a2cEnabled, and_assoc]
  unfold syncA2C
  split
  · next he => exact .inl ⟨h.1 he, rfl⟩
  · next he => exact .inr ⟨fun hn => he (h.2 hn), rfl⟩

/-- What SYNC_C2A can do (40_acquisition.md R104). -/
theorem syncC2A_cases (s : State) :
    (s.relReq = true ∧ syncC2A s = s.restart.emitStartIf s.acqEn) ∨ (s.relReq = false ∧ syncC2A s = s) := by
  cases h : s.relReq <;> simp [syncC2A, State.c2aEnabled, h]

/-- What AUTOISSUE can do (44_control.md R184). -/
theorem autoIssue_cases (s : State) :
    ((s.auto = true ∧ s.busy = false ∧ s.ready = true) ∧ autoIssue s = s.setPending autoWord) ∨
    (¬(s.auto = true ∧ s.busy = false ∧ s.ready = true) ∧ autoIssue s = s) := by
  cases h1 : s.auto <;> cases h2 : s.busy <;> cases h3 : s.ready <;> simp [autoIssue, State.autoEnabled, h1, h2, h3]

/-- What a write to STATUS can do (20_memory.md R58). -/
theorem writeStatus_cases (d : Word) (s : State) :
    (d.getLsbD 2 = true ∧ writeStatus d s = s.clearError) ∨ (d.getLsbD 2 = false ∧ writeStatus d s = s) := by
  unfold writeStatus
  cases d.getLsbD 2 <;> simp

/-- What an issue can do: one of three errors recorded, or the command pending (44_control.md R180). -/
theorem issue_cases (w : Word) (s : State) :
    (s.busy = true ∧ issue w s = s.raiseError errBusy) ∨
    (s.busy = false ∧ legal s.cfg w = false ∧ issue w s = s.raiseError errIllegal) ∨
    (s.busy = false ∧ legal s.cfg w = true ∧ needsReady (fieldOp w) = true ∧ s.ready = false ∧
      issue w s = s.raiseError errNotReady) ∨
    (s.busy = false ∧ legal s.cfg w = true ∧ (needsReady (fieldOp w) = true → s.ready = true) ∧
      issue w s = s.setPending w) := by
  unfold issue
  cases hb : s.busy <;> cases hl : legal s.cfg w <;> cases hn : needsReady (fieldOp w) <;> cases hr : s.ready <;> simp

/-- What a command can do: one case per command, with the operands in range where it has some (44_control.md R185). -/
theorem exec_next_cases {i : Instr} {s t : State} (h : exec i s = .next t) :
    (i = .nop ∧ t = s) ∨ (i = .rel ∧ t = s.release) ∨ (i = .dft ∧ t = s.dftAll) ∨
    (∃ k, i = .dftb k ∧ k.toNat ≤ s.cfg.n / 2 ∧ t = s.dftBin k.toNat) ∨
    (i = .fold ∧ t = s.foldBuckets) ∨ (i = .map ∧ t = s.mapAll) ∨ (i = .hyst ∧ t = s.hystAll) ∨
    (i = .frame ∧ t = s.dftAll.mapAll.hystAll.release) ∨ (i = .hclr ∧ t = s.clearBank) ∨
    (∃ c v, i = .seta c v ∧ (c.toNat < s.cfg.numCh ∧ v.toNat ≤ 1) ∧
      t = s.setActive c.toNat (decide (v.toNat = 1))) := by
  cases i with
  | nop => cases h; simp
  | rel => cases h; simp
  | dft => cases h; simp
  | fold => cases h; simp
  | map => cases h; simp
  | hyst => cases h; simp
  | frame => cases h; simp
  | hclr => cases h; simp
  | dftb k =>
    simp only [exec, execDftb] at h
    split at h
    · next hk => cases h; exact .inr (.inr (.inr (.inl ⟨k, rfl, hk, rfl⟩)))
    · cases h
  | seta c v =>
    simp only [exec, execSeta] at h
    split at h
    · next hc =>
      cases h
      exact .inr (.inr (.inr (.inr (.inr (.inr (.inr (.inr (.inr ⟨c, v, rfl, hc, rfl⟩))))))))
    · cases h

/-- No step writes the configuration by a command (10_state.md R35, R36). -/
theorem exec_next_cfg {i : Instr} {s t : State} (h : exec i s = .next t) : t.cfg = s.cfg := by
  rcases exec_next_cases h with ⟨_, rfl⟩ | ⟨_, rfl⟩ | ⟨_, rfl⟩ | ⟨_, _, _, rfl⟩ | ⟨_, rfl⟩ | ⟨_, rfl⟩ | ⟨_, rfl⟩ |
    ⟨_, rfl⟩ | ⟨_, rfl⟩ | ⟨_, _, _, _, rfl⟩ <;> simp

/-- The counter after an active frame, as a number (43_hysteresis.md R160). -/
theorem attack_toNat {cfg : Config} (h : cfg.max ≤ 255) (cnt : Byte) :
    (attack cfg cnt).toNat = match cfg.attackMode with
      | .inc1 => min (cnt.toNat + 1) cfg.max
      | .loadMax => cfg.max := by
  unfold attack
  cases cfg.attackMode <;> simp <;> omega

/-- The step of one channel's counter and output, as numbers (43_hysteresis.md R160). -/
theorem hstep_spec {cfg : Config} (a : Bool) (cnt : Byte) (o : Bool) :
    hstep cfg a cnt o =
      if a = true then (attack cfg cnt, true)
      else if cnt.toNat = 0 then (0, false)
      else (BitVec.ofNat 8 (cnt.toNat - 1), true) := by
  unfold hstep
  by_cases ha : a = true
  · simp [ha]
  · by_cases hc : cnt.toNat = 0
    · simp [ha, hc]
    · have h1 : 0 < cnt.toNat := by omega
      have h2 : cnt - 1 = BitVec.ofNat 8 (cnt.toNat - 1) := by
        apply BitVec.eq_of_toNat_eq
        have := cnt.isLt
        simp [BitVec.toNat_sub]
        omega
      simpa [ha, hc, h1] using h2

/-- An accumulator whose terms are bounded is bounded by as many times the bound as rounds were run. -/
theorem accumulate_bound {f : Nat → Int} {b : Nat} (m : Nat) (h : ∀ n < m, |f n| ≤ b) : |accumulate f m| ≤ m * b := by
  induction m with
  | zero => simp [accumulate]
  | succ m ih =>
    have h1 := ih fun n hn => h n (by omega)
    have h2 := h m (by omega)
    calc |accumulate f (m + 1)| ≤ |accumulate f m| + |f m| := abs_add_le _ _
      _ ≤ m * b + b := add_le_add h1 h2
      _ = (m + 1 : Nat) * b := by push_cast; ring

/-- The accumulator after m rounds is the sum of the m terms. -/
theorem accumulate_eq_sum (f : Nat → Int) (m : Nat) : accumulate f m = ∑ n ∈ Finset.range m, f n := by
  induction m with
  | zero => rfl
  | succ m ih => rw [Finset.sum_range_succ, ← ih]; rfl

/-- An accumulator whose terms are all 0 is 0. -/
theorem accumulate_zero {f : Nat → Int} (m : Nat) (h : ∀ n < m, f n = 0) : accumulate f m = 0 := by
  induction m with
  | zero => rfl
  | succ m ih => simp [accumulate, ih fun n hn => h n (by omega), h m (by omega)]

end Sys2Proof.Machine
end

