-- ==== Sys2Proof/Laws/Step.lean ====
section
/-! SUPPORT. What a step can do. -/

namespace Sys2Proof.Machine

/-- A step gives a next state exactly when the configuration is well formed and the next event gives it. -/
theorem step_next_iff {s t : State} : step s = .next t ↔ s.cfg.wf ∧ perform s.nextEvent s.advance = .next t := by
  constructor
  · intro h
    have hwf : s.cfg.wf := by
      unfold step stepAny at h
      split at h
      · assumption
      · cases h
    exact ⟨hwf, by rw [← step_eq_perform hwf, h]⟩
  · rintro ⟨hwf, h⟩
    rw [step_eq_perform hwf, h]

/-- What a step can do: the one inversion lemma of `step`, one case per kind of step that changes something, and the
case in which only the model's own fields move. -/
theorem step_next_cases {s t : State} (h : step s = .next t) :
    (∃ a, s.nextEvent = .busRead a ∧ t = busRead a s.advance) ∨
    (∃ d, s.writes .ctrl d ∧ t = writeCtrl d s.advance) ∨
    (∃ d, s.writes .status d ∧ t = s.advance.clearError) ∨
    (∃ w c, s.writes .cmd w ∧ t = s.advance.raiseError c ∧ 0 < c.toNat ∧ c.toNat ≤ 3) ∨
    (∃ w, s.writes .cmd w ∧ s.busy = false ∧ legal s.cfg w = true ∧
      (needsReady (fieldOp w) = true → s.ready = true) ∧ t = s.advance.setPending w) ∨
    (∃ d, s.nextEvent = .sample d ∧ (s.acqEn = true ∧ s.count < s.cfg.n) ∧
      t = (s.advance.storeSample (adcValue s.cfg d)).emitStartIf (decide (s.count + 1 < s.cfg.n))) ∨
    (s.nextEvent = .syncA2C ∧ (s.count = s.cfg.n ∧ s.relReq = false ∧ s.ready = false) ∧
      t = s.advance.raiseReady) ∨
    (s.nextEvent = .syncC2A ∧ s.relReq = true ∧ t = s.advance.restart.emitStartIf s.acqEn) ∨
    (s.nextEvent = .autoIssue ∧ (s.auto = true ∧ s.busy = false ∧ s.ready = true) ∧
      t = s.advance.setPending autoWord) ∨
    (s.nextEvent = .reset ∧ t = resetEvent s.advance) ∨
    (∃ i u, s.executes i ∧ exec i s.advance = .next u ∧ t = u.setIdle) ∨
    t = s.advance := by
  rcases perform_next_cases (step_next_iff.1 h).2 with ⟨a, hE, rfl⟩ | ⟨a, d, hE, rfl⟩ | ⟨a, hE, rfl⟩ | ⟨hE, rfl⟩ |
    ⟨hE, rfl⟩ | ⟨hE, he⟩ | ⟨hE, rfl⟩ | ⟨hE, rfl⟩
  · exact .inl ⟨_, hE, rfl⟩
  · rcases busWrite_cases a d s.advance with ⟨hg, h⟩ | ⟨hg, h⟩ | ⟨hg, h⟩ | ⟨_, h⟩
    · exact .inr (.inl ⟨d, ⟨a, hE, hg⟩, h⟩)
    · rcases writeStatus_cases d s.advance with ⟨_, h'⟩ | ⟨_, h'⟩
      · exact .inr (.inr (.inl ⟨d, ⟨a, hE, hg⟩, h.trans h'⟩))
      · simp [h, h']
    · have hw : s.writes .cmd d := ⟨a, hE, hg⟩
      rcases issue_cases d s.advance with ⟨_, h'⟩ | ⟨_, _, h'⟩ | ⟨_, _, _, _, h'⟩ | ⟨h1, h2, h3, h'⟩
      · exact .inr (.inr (.inr (.inl ⟨d, _, hw, h.trans h', by decide, by decide⟩)))
      · exact .inr (.inr (.inr (.inl ⟨d, _, hw, h.trans h', by decide, by decide⟩)))
      · exact .inr (.inr (.inr (.inl ⟨d, _, hw, h.trans h', by decide, by decide⟩)))
      · exact .inr (.inr (.inr (.inr (.inl ⟨d, hw, h1, h2, h3, h.trans h'⟩))))
    · simp [h]
  · rcases sampleEvent_cases a s.advance with ⟨h1, h'⟩ | ⟨_, h'⟩
    · exact .inr (.inr (.inr (.inr (.inr (.inl ⟨a, hE, h1, h'⟩)))))
    · simp [h']
  · rcases syncA2C_cases s.advance with ⟨h1, h'⟩ | ⟨_, h'⟩
    · simp at h1; simp [hE, h', h1]
    · simp [h']
  · rcases syncC2A_cases s.advance with ⟨h1, h'⟩ | ⟨_, h'⟩
    · simp at h1; simp [hE, h', h1]
    · simp [h']
  · rcases engineExec_next_cases he with ⟨_, rfl⟩ | ⟨hb, i, u, hi, hu, rfl⟩
    · simp
    · refine .inr (.inr (.inr (.inr (.inr (.inr (.inr (.inr (.inr (.inr (.inl ⟨i, u, ⟨hE, hb, hi⟩, hu, rfl⟩))))))))))
  · rcases autoIssue_cases s.advance with ⟨h1, h'⟩ | ⟨_, h'⟩
    · simp at h1; simp [hE, h', h1]
    · simp [h']
  · simp [hE]

end Sys2Proof.Machine
end

