-- ==== Sys2Proof/Laws/Invariant.lean ====
section
/-! SUPPORT. Each part of the invariant depends only on the fields it speaks of. -/

namespace Sys2Proof.Machine

theorem State.shape_of_eq {s t : State} (h : s.shape) (h0 : t.cfg = s.cfg) (h1 : t.power.length = s.power.length)
    (h2 : t.bucket.length = s.bucket.length) (h3 : t.active.length = s.active.length)
    (h4 : t.hcnt.length = s.hcnt.length) (h5 : t.out.length = s.out.length) : t.shape := by
  simpa only [State.shape, h0, h1, h2, h3, h4, h5] using h

theorem State.frameOk_of_eq {s t : State} (h : s.frameOk) (h0 : t.cfg = s.cfg) (h1 : t.frame = s.frame) :
    t.frameOk := by
  simpa only [State.frameOk, h0, h1] using h

theorem State.filledOk_of_eq {s t : State} (h : s.filledOk) (h1 : t.frame = s.frame) (h2 : t.count = s.count) :
    t.filledOk := by
  simpa only [State.filledOk, h1, h2] using h

theorem State.handoff_of_eq {s t : State} (h : s.handoff) (h0 : t.cfg = s.cfg) (h1 : t.count = s.count)
    (h2 : t.ready = s.ready) (h3 : t.relReq = s.relReq) : t.handoff := by
  simpa only [State.handoff, h0, h1, h2, h3] using h

theorem State.bankOk_of_eq {s t : State} (h : s.bankOk) (h0 : t.cfg = s.cfg) (h1 : t.hcnt = s.hcnt)
    (h2 : t.out = s.out) : t.bankOk := by
  simpa only [State.bankOk, State.hcntAt, State.outAt, h0, h1, h2] using h

theorem State.errorOk_of_eq {s t : State} (h : s.errorOk) (h1 : t.err = s.err) (h2 : t.errcode = s.errcode) :
    t.errorOk := by
  simpa only [State.errorOk, h1, h2] using h

theorem State.pendingOk_of_eq {s t : State} (h : s.pendingOk) (h0 : t.cfg = s.cfg) (h1 : t.busy = s.busy)
    (h2 : t.pcmd = s.pcmd) (h3 : t.ready = s.ready) : t.pendingOk := by
  simpa only [State.pendingOk, h0, h1, h2, h3] using h

theorem State.powerOk_of_eq {s t : State} (h : s.powerOk) (h0 : t.cfg = s.cfg) (h1 : t.power = s.power) :
    t.powerOk := by
  simpa only [State.powerOk, State.powerAt, h0, h1] using h

end Sys2Proof.Machine
end

