-- ==== Sys2Proof/Laws/PerInstr.lean ====
section
/-! SUPPORT. A fact about every command's encoding: it lies in its own row of spec/opcode_table.json and in no other. -/

namespace Sys2Proof.Laws.TableRow

/-- The masks and matches of spec/opcode_table.json, in the table's order. -/
def table : List (Word × Word) :=
  [(0xFFFFFFFF, 0x00000000), (0xFFFFFFFF, 0x00001000), (0xFFFFFFFF, 0x00002000), (0xFFFFFF00, 0x00003000),
   (0xFFFFFFFF, 0x00004000), (0xFFFFFFFF, 0x00005000), (0xFFFFFFFF, 0x00006000), (0xFFFFFFFF, 0x00007000),
   (0xFFFFFFFF, 0x00008000), (0xFFFFF0FE, 0x00009000)]

/-- The numbers of the rows that a word lies in. -/
def rowsOf (w : Word) : List Nat := table.findIdxs fun r => w &&& r.1 == r.2

/-- The number of a command's row, which is its OP (30_encoding.md R84). -/
def rowNumber : Instr → Nat
  | .nop => 0
  | .rel => 1
  | .dft => 2
  | .dftb _ => 3
  | .fold => 4
  | .map => 5
  | .hyst => 6
  | .frame => 7
  | .hclr => 8
  | .seta _ _ => 9

/-- A command whose operands are in range encodes into its own row and into no other (30_encoding.md R84). -/
def Statement (i : Instr) : Prop := ∀ cfg : Config, i.wf cfg = true → rowsOf (encode i) = [rowNumber i]

theorem nop : Statement .nop := fun _ _ => by decide

theorem rel : Statement .rel := fun _ _ => by decide

theorem dft : Statement .dft := fun _ _ => by decide

theorem dftb (k : BitVec 8) : Statement (.dftb k) := fun _ _ =>
  (by decide : ∀ k, rowsOf (encode (.dftb k)) = [3]) k

theorem fold : Statement .fold := fun _ _ => by decide

theorem map : Statement .map := fun _ _ => by decide

theorem hyst : Statement .hyst := fun _ _ => by decide

theorem frame : Statement .frame := fun _ _ => by decide

theorem hclr : Statement .hclr := fun _ _ => by decide

theorem seta (c : BitVec 4) (v : BitVec 8) : Statement (.seta c v) := fun _ h =>
  (by decide : ∀ v : BitVec 8, v.toNat ≤ 1 → ∀ c, rowsOf (encode (.seta c v)) = [9]) v (of_decide_eq_true h).2 c

end Sys2Proof.Laws.TableRow
end

