-- ==== Sys2Proof/Laws/Runs.lean ====
section
/-! SUPPORT. Runs and scripts: what a scheduled step runs, that in a run from reset the ADC owes a sample while a frame
fills, and what the end of a script can come from. -/

namespace Sys2Proof.Machine

/-- The next event of a state with one event scheduled. -/
@[simp] theorem State.nextEvent_withAgenda (s : State) (e : Event) (es : List Event) :
    (s.withAgenda (e :: es)).nextEvent = e := rfl

/-- A scheduled step of a well-formed machine performs its event. -/
theorem step_withAgenda {s : State} (h : s.cfg.wf) (e : Event) (es : List Event) :
    step (s.withAgenda (e :: es)) = perform e { s with agenda := es, tick := s.tick + 1, emits := [] } :=
  step_eq_perform (s := s.withAgenda (e :: es)) h

/-- In a run from reset, while ACQ_EN = 1, count < N and REL_REQ = 0, an adc_start is out that no SAMPLE has answered:
reset, a rising ACQ_EN, SYNC_C2A and every storing SAMPLE put one out (40_acquisition.md R101; 70_reset_and_hazards.md R220). -/
theorem adcOwes_of_reset {cfg : Config} {σ : Nat → Event} {ρ : Nat → State} (h0 : ρ 0 = State.resetOf cfg)
    (hrun : IsRun σ ρ) (k : Nat) (ha : (ρ k).acqEn = true) (hc : (ρ k).count < (ρ k).cfg.n)
    (hr : (ρ k).relReq = false) : AdcOwes σ ρ k := by
  have fresh (h : .adcStart ∈ (ρ k).emits) : AdcOwes σ ρ k := ⟨k, le_rfl, h, fun j _ h1 h2 => by omega⟩
  induction k with
  | zero =>
    refine fresh ?_
    rw [h0] at ha ⊢
    simp_all [State.resetOf]
  | succ k ih =>
    -- a step that is no SAMPLE hands an unanswered adc_start on
    have keep (hs : ∀ data, σ k ≠ .sample data) (h1 : (ρ k).acqEn = true) (h2 : (ρ k).count < (ρ k).cfg.n)
        (h3 : (ρ k).relReq = false) : AdcOwes σ ρ (k + 1) := by
      obtain ⟨i, hi, he, hn⟩ := ih h1 h2 h3 (fun h => ⟨k, le_rfl, h, fun j _ h1 h2 => by omega⟩)
      refine ⟨i, by omega, he, fun j data h1 h2 => ?_⟩
      rcases Nat.lt_succ_iff_lt_or_eq.1 h2 with h | rfl
      · exact hn j data h1 h
      · exact hs data
    have hp := (step_next_iff.1 (hrun k)).2
    rw [State.nextEvent_withAgenda] at hp
    -- a step that changes none of the fields in question
    have same (hs : ∀ data, σ k ≠ .sample data) (e1 : (ρ (k + 1)).acqEn = (ρ k).acqEn)
        (e2 : (ρ (k + 1)).count = (ρ k).count) (e3 : (ρ (k + 1)).relReq = (ρ k).relReq)
        (e4 : (ρ (k + 1)).cfg = (ρ k).cfg) : AdcOwes σ ρ (k + 1) :=
      keep hs (e1 ▸ ha) (e4 ▸ e2 ▸ hc) (e3 ▸ hr)
    rcases perform_next_cases hp with ⟨a, hE, ht⟩ | ⟨a, d, hE, ht⟩ | ⟨a, hE, ht⟩ | ⟨hE, ht⟩ | ⟨hE, ht⟩ | ⟨hE, he⟩ |
      ⟨hE, ht⟩ | ⟨hE, ht⟩
    · exact same (by simp [hE]) (by rw [ht]; rfl) (by rw [ht]; rfl) (by rw [ht]; rfl) (by rw [ht]; rfl)
    · rcases busWrite_cases a d ((ρ k).withAgenda [σ k]).advance with ⟨_, h⟩ | ⟨_, h⟩ | ⟨_, h⟩ | ⟨_, h⟩ <;> rw [h] at ht
      · by_cases h1 : (ρ k).acqEn = true
        · refine keep (by simp [hE]) h1 ?_ ?_
          · rw [ht] at hc; simpa [writeCtrl] using hc
          · rw [ht] at hr; simpa [writeCtrl] using hr
        · refine fresh ?_
          rw [ht] at ha hc hr ⊢
          simp_all [writeCtrl]
      · rcases writeStatus_cases d ((ρ k).withAgenda [σ k]).advance with ⟨_, h'⟩ | ⟨_, h'⟩ <;> rw [h'] at ht <;>
          exact same (by simp [hE]) (by simp [ht]) (by simp [ht]) (by simp [ht]) (by simp [ht])
      · rcases issue_cases d ((ρ k).withAgenda [σ k]).advance with ⟨_, h'⟩ | ⟨_, _, h'⟩ | ⟨_, _, _, _, h'⟩ | ⟨_, _, _, h'⟩ <;>
          rw [h'] at ht <;> exact same (by simp [hE]) (by simp [ht]) (by simp [ht]) (by simp [ht]) (by simp [ht])
      · exact same (by simp [hE]) (by simp [ht]) (by simp [ht]) (by simp [ht]) (by simp [ht])
    · rcases sampleEvent_cases a ((ρ k).withAgenda [σ k]).advance with ⟨h1, h⟩ | ⟨h1, h⟩ <;> rw [h] at ht
      · refine fresh ?_
        rw [ht] at hc ⊢
        simp at hc
        simp [hc]
      · rw [ht] at ha hc
        exact absurd ⟨ha, hc⟩ h1
    · rcases syncA2C_cases ((ρ k).withAgenda [σ k]).advance with ⟨_, h⟩ | ⟨_, h⟩ <;> rw [h] at ht <;>
        exact same (by simp [hE]) (by simp [ht]) (by simp [ht]) (by simp [ht]) (by simp [ht])
    · rcases syncC2A_cases ((ρ k).withAgenda [σ k]).advance with ⟨_, h⟩ | ⟨_, h⟩ <;> rw [h] at ht
      · refine fresh ?_
        rw [ht] at ha ⊢
        simp_all
      · exact same (by simp [hE]) (by simp [ht]) (by simp [ht]) (by simp [ht]) (by simp [ht])
    · rcases engineExec_next_cases he with ⟨_, ht⟩ | ⟨_, i, u, _, hu, ht⟩
      · exact same (by simp [hE]) (by simp [ht]) (by simp [ht]) (by simp [ht]) (by simp [ht])
      · rcases exec_next_cases hu with ⟨rfl, rfl⟩ | ⟨rfl, rfl⟩ | ⟨rfl, rfl⟩ | ⟨_, rfl, _, rfl⟩ | ⟨rfl, rfl⟩ | ⟨rfl, rfl⟩ |
          ⟨rfl, rfl⟩ | ⟨rfl, rfl⟩ | ⟨rfl, rfl⟩ | ⟨_, _, rfl, _, rfl⟩ <;>
          first
            | (rw [ht] at hr; simp at hr; done)
            | exact same (by simp [hE]) (by simp [ht]) (by simp [ht]) (by simp [ht]) (by simp [ht])
    · rcases autoIssue_cases ((ρ k).withAgenda [σ k]).advance with ⟨_, h⟩ | ⟨_, h⟩ <;> rw [h] at ht <;>
        exact same (by simp [hE]) (by simp [ht]) (by simp [ht]) (by simp [ht]) (by simp [ht])
    · refine fresh ?_
      rw [ht] at ha ⊢
      simp_all [resetEvent, State.resetOf]

/-- Whether an internal step is enabled is a matter of the spec's components alone. -/
theorem State.internalEnabled_of_architectural {s t : State} (h : s.architectural = t.architectural) (e : Event) :
    s.internalEnabled e = t.internalEnabled e := by
  have key (u : State) : u.internalEnabled e = u.architectural.internalEnabled e := by cases e <;> rfl
  rw [key s, key t, h]

/-- The internal work is a matter of the spec's components alone. -/
theorem State.internalWork_of_architectural {s t : State} (h : s.architectural = t.architectural) :
    s.internalWork = t.internalWork := by
  have key (u : State) : u.internalWork = u.architectural.internalWork := rfl
  rw [key s, key t, h]

/-- A bus step ends a script's first operation or leaves the script as it is. -/
theorem dropEnded_cases (t : State) (op : HostOp) (ops : List HostOp) :
    (op.ends t.emits = true ∧ dropEnded t (op :: ops) = ops) ∨
    (op.ends t.emits = false ∧ dropEnded t (op :: ops) = op :: ops) := by
  by_cases h : op.ends t.emits = true <;> simp [dropEnded, h]

/-- What the end of a script can come from: the schedule is over in a quiescent state with nothing left of the script, or an
admitted step leads to a state from which the rest ends there. -/
theorem scriptEnd_cases {es : List Event} {ops : List HostOp} {s t : State} (h : scriptEnd es ops s = some t) :
    (es = [] ∧ ops = [] ∧ s.quiescent ∧ t = s) ∨
    (∃ e es' u, es = e :: es' ∧ scriptAdmits ops s e = true ∧ step (s.withAgenda [e]) = .next u ∧
      scriptEnd es' (scriptRest ops u e) u = some t) := by
  cases es with
  | nil =>
    simp only [scriptEnd] at h
    split at h
    · rename_i hq
      cases h
      exact .inl ⟨rfl, hq.1, hq.2, rfl⟩
    · cases h
  | cons e es =>
    simp only [scriptEnd] at h
    split at h
    · cases h
    · split at h
      · rename_i ha
        split at h
        · rename_i u hu
          exact .inr ⟨e, es, u, rfl, ha, hu, h⟩
        · cases h
        · cases h
      · cases h

end Sys2Proof.Machine
end

