-- ==== Sys2Proof/Tests/Slice0.lean ====
section
/-! SUPPORT. The model's own tests, on values of spec/95_test_vectors.md (the vector's name stands at each), and for each
statement with hypotheses a witness that meets them. -/

namespace Sys2Proof.Tests

open Sys2Proof.Machine

/-! ## Small states -/

/-- The small configuration of vectors DFT-15 and BUS-3: N = 8, NUM_CH = 2, MAX = 3. -/
def small : Config := Config.sized 8 2 3 (Config.defaultTwiddle 8 14)

/-- A frame buffer that holds these samples from slot 0 on. -/
def frameOf (vs : List Int) : Memory := vs.zipIdx.map fun p => (p.2, p.1)

/-- After reset, with ACQ_EN = 1 and these samples stored. -/
def filled (cfg : Config) (vs : List Int) : State :=
  { State.resetOf cfg with frame := frameOf vs, count := vs.length, acqEn := true }

/-- The same with READY = 1. -/
def held (cfg : Config) (vs : List Int) : State := (filled cfg vs).raiseReady

/-- A state with a command pending and EXEC next. -/
def pend (s : State) (i : Instr) : State := s.withPending (encode i)

/-- One step gives a next state with this property. -/
def runs (s : State) (p : State → Bool) : Bool :=
  match step s with
  | .next t => p t
  | .fault _ => false
  | .refused _ => false

/-- The frame of vector DFT-15. -/
def impulse8 : List Int := [10, 0, 0, 0, 0, 0, 0, 0]

/-- The frame of vector DFT-3. -/
def impulse32 : List Int := 127 :: List.replicate 31 0

/-- The frame of vector DFT-5. -/
def tone4 : List Int := (List.replicate 4 [100, 71, 0, -71, -100, -71, 0, 71]).flatten

/-- A frame of READY samples in the small configuration. -/
def ready8 : State := held small impulse8

/-- The small machine just after reset. -/
def fresh8 : State := State.resetOf small

/-- A released frame: READY = 0, REL_REQ = 1. -/
def released8 : State := (filled small impulse8).release

/-! ## Configurations and well-formedness -/

theorem test_default_wf : Config.default.wf := by decide

theorem test_small_wf : small.wf := by decide

/-- 00_scope.md R7 gives BT, A and the power bound of the defaults. -/
theorem test_default_bounds :
    Config.default.termBound = 128 ∧ Config.default.accBound = 4096 ∧ Config.default.powerBound = 32768 ∧
    Config.default.nb * 32768 = 557056 := by decide

/-- Whether the model builds a machine for a configuration. -/
def accepts (cfg : Config) : Bool := decide cfg.wf

/-- 00_scope.md R6 (a), (b), (c), (d) and R7, in both places of the shift, each refuse a configuration. -/
theorem test_ill_formed_configurations :
    accepts { Config.default with n := 24 } = false ∧ accepts { Config.default with max := 0 } = false ∧
    accepts { Config.default with twiddle := 32768 :: Config.twiddle32.tail } = false ∧
    accepts { Config.default with sel := 9 :: Config.default.sel.tail } = false ∧
    accepts { Config.default with sb := 16, f := 1 } = false ∧
    accepts { Config.default with sb := 16, shiftPoint := .perSum } = false := by decide

/-- 30_encoding.md R83: DFTB's k ≤ N/2, SETA's c < NUM_CH and v ≤ 1. -/
theorem test_ill_formed_commands :
    (Instr.dftb 17).wf Config.default = false ∧ (Instr.seta 8 0).wf Config.default = false ∧
    (Instr.seta 0 2).wf Config.default = false ∧ (Instr.dftb 16).wf Config.default = true ∧
    (Instr.seta 7 1).wf Config.default = true := by decide

/-- 41_spectral.md R121 prints the ROM that R120's formula gives; DFT-15 prints the one of N = 8. -/
theorem test_twiddle_tables :
    Config.defaultTwiddle 32 14 = Config.twiddle32 ∧
    Config.defaultTwiddle 8 14 = [16384, 11585, 0, -11585, -16384, -11585, 0, 11585] := by decide

/-! ## Decoding: Z, OP, CH, IMM written out bit by bit (30_encoding.md R82, R84) -/

theorem test_decode_nop : decode Config.default 0b0000000000000000_0000_0000_00000000 = .ok .nop := by decide

theorem test_decode_rel : decode Config.default 0b0000000000000000_0001_0000_00000000 = .ok .rel := by decide

theorem test_decode_dft : decode Config.default 0b0000000000000000_0010_0000_00000000 = .ok .dft := by decide

theorem test_decode_dftb : decode Config.default 0b0000000000000000_0011_0000_00010000 = .ok (.dftb 16) := by decide

theorem test_decode_fold : decode Config.default 0b0000000000000000_0100_0000_00000000 = .ok .fold := by decide

theorem test_decode_map : decode Config.default 0b0000000000000000_0101_0000_00000000 = .ok .map := by decide

theorem test_decode_hyst : decode Config.default 0b0000000000000000_0110_0000_00000000 = .ok .hyst := by decide

theorem test_decode_frame : decode Config.default 0b0000000000000000_0111_0000_00000000 = .ok .frame := by decide

theorem test_decode_hclr : decode Config.default 0b0000000000000000_1000_0000_00000000 = .ok .hclr := by decide

theorem test_decode_seta : decode Config.default 0b0000000000000000_1001_0111_00000001 = .ok (.seta 7 1) := by decide

/-- DFT-14, SETA-2, ERR-3, ERR-4, ERR-6, ERR-7, ERR-8 and a reserved OP. -/
theorem test_decode_refuses :
    decode Config.default 0x00003011 = .error .binOutOfRange ∧
    decode Config.default 0x00009801 = .error .setaOutOfRange ∧
    decode Config.default 0x00009002 = .error .setaOutOfRange ∧
    decode Config.default 0x00009802 = .error .setaOutOfRange ∧
    decode Config.default 0x00010000 = .error .upperBits ∧
    decode Config.default 0x00002001 = .error .unusedField ∧
    decode Config.default 0x00000100 = .error .unusedField ∧
    decode Config.default 0x0000A000 = .error .reservedOp := by decide

theorem test_table_word : decodeTableWord 32 0x00009301 = some (.seta 3 1) ∧ decodeTableWord 32 0x0000F000 = none := by
  decide

/-- 30_encoding.md R90: decimal and hexadecimal operands, and none for an operand out of range. -/
theorem test_assemble :
    assembleLine Config.default ['D', 'F', 'T', 'B', ' ', '1', '6'] = some 0x00003010 ∧
    assembleLine Config.default ['D', 'F', 'T', 'B', ' ', '0', 'x', '1', '1'] = none ∧
    assembleLine Config.default ['S', 'E', 'T', 'A', ' ', '3', ',', ' ', '1'] = some 0x00009301 ∧
    assembleLine Config.default ['F', 'R', 'A', 'M', 'E'] = some 0x00007000 := by decide

/-! ## The commands -/

/-- NOP-1. -/
theorem test_nop : runs (pend ready8 .nop) (fun t => t == { (pend ready8 .nop).advance with busy := false }) = true := by
  decide

/-- REL-1. -/
theorem test_rel :
    runs (pend ready8 .rel) (fun t => !t.ready && t.relReq && t.count == 8 && t.frame == ready8.frame && !t.busy) =
      true := by decide

/-- DFT-3, FOLD-1. -/
theorem test_dft_impulse :
    runs (pend (held Config.default impulse32) .dft) (fun t =>
      t.power == List.replicate 17 15 && t.bucket == List.replicate 8 15 ++ [135] && t.ready) = true := by decide

/-- DFT-12: the other bins and the buckets stay. -/
theorem test_dftb_one_bin :
    runs (pend (held Config.default tone4) (.dftb 4)) (fun t =>
      t.powerAt 4 == 2500 && t.powerAt 3 == 0 && t.powerAt 12 == 0 && t.bucketAt 4 == 0) = true := by decide

/-- FOLD-1. -/
theorem test_fold :
    runs (pend { State.reset with power := List.replicate 17 15 } .fold) (fun t =>
      t.bucket == List.replicate 8 15 ++ [135] && t.power == List.replicate 17 15) = true := by decide

/-- FOLD-4: NBD = N/2 + 1 has an empty residual. -/
theorem test_fold_empty_residual :
    runs (pend { State.resetOf (Config.sized 8 5 3 small.twiddle) with power := List.replicate 5 7 } .fold) (fun t =>
      t.bucket == [7, 7, 7, 7, 7, 0]) = true := by decide

/-- The configuration of MAP-1. -/
def mapConfig : Config :=
  { Config.default with sel := [0, 1, 2, 3, 4, 5, 6, 8], thresh := [14, 15, 0, 0, 0, 0, 0, 134] }

/-- MAP-1. -/
theorem test_map :
    runs (pend { State.resetOf mapConfig with bucket := List.replicate 8 15 ++ [135] } .map) (fun t =>
      t.activeWord == 0xFD) = true := by decide

/-- MAP-3: THRESH = 2^32 - 1 is never active. -/
theorem test_map_never :
    runs (pend { State.resetOf { small with thresh := [0xFFFFFFFF, 0] } with bucket := [0xFFFFFFFF, 1, 0] } .map) (fun t =>
      t.activeWord == 2) = true := by decide

/-- HYS-3. -/
theorem test_hyst :
    runs (pend { State.reset with
        active := [true, false, true, false, false, false, false, false], hcnt := [0, 3, 16, 0, 0, 0, 0, 0]
        out := [false, true, true, false, false, false, false, false] } .hyst) (fun t =>
      t.hcnt == [1, 2, 16, 0, 0, 0, 0, 0] && t.outWord == 0x07) = true := by decide

/-- HYS-1, the columns INC1 and LOAD_MAX. -/
theorem test_hstep_table :
    let row (mode : AttackMode) (a : Bool) (cnt : Byte) (o : Bool) :=
      hstep { Config.default with attackMode := mode } a cnt o
    (row .inc1 true 0 false, row .loadMax true 0 false) = ((1, true), (16, true)) ∧
    (row .inc1 true 15 true, row .loadMax true 5 true) = ((16, true), (16, true)) ∧
    (row .inc1 true 16 true, row .loadMax true 16 true) = ((16, true), (16, true)) ∧
    (row .inc1 false 16 true, row .loadMax false 16 true) = ((15, true), (15, true)) ∧
    (row .inc1 false 1 true, row .loadMax false 1 true) = ((0, true), (0, true)) ∧
    (row .inc1 false 0 true, row .loadMax false 0 false) = ((0, false), (0, false)) := by decide

/-- DFT-15. -/
theorem test_frame :
    runs (pend ready8 .frame) (fun t =>
      t.power == [1, 1, 1, 1, 1] && t.bucket == [1, 1, 3] && t.activeWord == 3 && t.hcnt == [1, 1] && t.outWord == 3 &&
      !t.ready && t.relReq && t.frame == ready8.frame) = true := by decide

/-- HCLR-1: ACTIVE stays. -/
theorem test_hclr :
    runs (pend { State.reset with
        active := [false, false, true, false, false, false, false, false], hcnt := [5, 0, 16, 0, 0, 0, 0, 0]
        out := [true, false, true, false, false, false, false, false] } .hclr) (fun t =>
      t.hcnt == List.replicate 8 0 && t.outWord == 0 && t.activeWord == 4) = true := by decide

/-- SETA-1, run as the first command after reset. -/
theorem test_seta : runs (State.reset.withFetchWord 32 0x00009301) (fun t => t.activeWord == 8) = true := by decide

theorem test_seta_clears :
    runs (pend { State.reset with active := List.replicate 8 true } (.seta 3 0)) (fun t => t.activeWord == 0xF7) = true := by
  decide

/-! ## The arithmetic modes -/

/-- The correlations of a frame of the default configuration in one mode. -/
def corrIn (mode : ShiftMode) (point : ShiftPoint) (vs : List Int) (k : Nat) : Int × Int :=
  let cfg := { Config.default with shiftMode := mode, shiftPoint := point }
  (corrRe cfg (fun n => vs.getD n 0) k, corrIm cfg (fun n => vs.getD n 0) k)

/-- DFT-4, bins 0, 7, 8 and 16. -/
theorem test_shift_modes :
    let s : List Int := [0, -1]
    [0, 7, 8, 16].map (corrIn .floor .perProduct s) = [(-1, 0), (-1, 1), (0, 1), (1, 0)] ∧
    [0, 7, 8, 16].map (corrIn .trunc .perProduct s) = [(-1, 0), (0, 0), (0, 1), (1, 0)] ∧
    [0, 7, 8, 16].map (corrIn .floor .perSum s) = [(-1, 0), (-1, 1), (0, 1), (1, 0)] ∧
    [0, 7, 8, 16].map (corrIn .trunc .perSum s) = [(-1, 0), (0, 0), (0, 1), (1, 0)] := by decide

/-- DFT-5, bins 4 and 12: the four modes differ. -/
theorem test_shift_points :
    [4, 12].map (corrIn .floor .perProduct tone4) = [(1600, 8), (-16, 8)] ∧
    [4, 12].map (corrIn .trunc .perProduct tone4) = [(1600, 0), (0, 0)] ∧
    [4, 12].map (corrIn .floor .perSum tone4) = [(1603, 0), (-4, 0)] ∧
    [4, 12].map (corrIn .trunc .perSum tone4) = [(1603, 0), (-3, 0)] := by decide

/-- The frame of vector DFT-6. -/
def sine3 : List Int :=
  [0, 71, 117, 125, 90, 25, -49, -106, -127, -106, -49, 25, 90, 125, 117, 71,
   0, -71, -117, -125, -90, -25, 49, 106, 127, 106, 49, -25, -90, -125, -117, -71]

/-- DFT-6: a sine lands on the negative imaginary axis. -/
theorem test_sine : corrIn .floor .perProduct sine3 3 = (-14, -2022) ∧ corrIn .floor .perSum sine3 3 = (0, -2036) := by
  decide

/-! ## The other agents -/

/-- ACQ-1. -/
theorem test_sample_disabled :
    runs (State.reset.withAgenda [.sample 5]) (fun t => t.count == 0 && t.frame == [] && t.emits == []) = true := by decide

/-- ACQ-3: the last sample fills the frame and asks for no conversion. -/
theorem test_sample_last :
    runs ((filled small (impulse8.take 7)).withAgenda [.sample 0xFFF9]) (fun t =>
      t.count == 8 && t.frame.read 7 == some (-7) && t.emits == []) = true := by decide

/-- ACQ-5, ACQ-6. -/
theorem test_sample_stores :
    runs ((filled small [1, 2]).withAgenda [.sample 0xFF80]) (fun t =>
      t.count == 3 && t.frame == [(0, 1), (1, 2), (2, -128)] && t.emits == [.adcStart]) = true := by decide

/-- SYNC-1. -/
theorem test_sync_a2c :
    runs ((filled Config.default impulse32).withAgenda [.syncA2C]) (fun t => t.readReg 7 .status == 0x00002001) = true := by
  decide

/-- SYNC-2. -/
theorem test_sync_c2a :
    runs (released8.withAgenda [.syncC2A]) (fun t => t.count == 0 && !t.relReq && t.emits == [.adcStart]) = true := by decide

/-- AUTO-1. -/
theorem test_auto_issue :
    runs ({ held Config.default impulse32 with auto := true }.withAgenda [.autoIssue]) (fun t =>
      t.pcmd == 0x00007000 && t.readReg 7 .status == 0x00002003) = true := by decide

/-- RST-2. -/
theorem test_reset_autostart :
    runs ((pend { ready8 with cfg := { small with autostart := true } } .frame).withAgenda [.reset]) (fun t =>
      !t.busy && !t.ready && t.count == 0 && t.ctrlWord == 3 && t.emits == [.adcStart]) = true := by decide

/-- RST-2, for the state after reset itself, in which a capture with AUTOSTART = 1 begins. -/
theorem test_reset_state_autostart :
    (State.resetOf { small with autostart := true }).emits = [.adcStart] ∧ State.reset.emits = [] := by decide

/-- ERR-1. -/
theorem test_error_not_ready :
    runs (State.reset.withAgenda [cmdEvent .dft]) (fun t => byteLane (t.readReg 0 .status) 0 == 0x34 && !t.busy) = true := by
  decide

/-- ERR-3: ILLEGAL comes before NOTREADY. -/
theorem test_error_illegal :
    runs (State.reset.withAgenda [.busWrite 0x010 0x00003011]) (fun t => byteLane (t.readReg 0 .status) 0 == 0x24) =
      true := by decide

/-- ERR-5. -/
theorem test_error_busy :
    runs ({ State.reset with busy := true }.withAgenda [cmdEvent .map]) (fun t =>
      byteLane (t.readReg 0 .status) 0 == 0x16 && t.pcmd == 0) = true := by decide

/-- BUS-1, BUS-2. -/
theorem test_params :
    param0Word Config.default = 0x10080820 ∧ param1Word Config.default = 0x00000E08 ∧
    param1Word { Config.default with shiftMode := .trunc } = 0x00010E08 ∧
    param1Word { Config.default with shiftPoint := .perSum } = 0x00020E08 ∧
    param1Word { Config.default with attackMode := .loadMax } = 0x00040E08 ∧
    param1Word { Config.default with autostart := true } = 0x00080E08 := by decide

/-- BUS-3. -/
theorem test_small_bus :
    param0Word small = 0x03020208 ∧
    [0, 1, 2, 3, 4, 5, 6, 7].map (fun j => fresh8.readAt 0 (windowAddr 0x400 j 0)) =
      [0x00004000, 0x00002D41, 0x00000000, 0xFFFFD2BF, 0xFFFFC000, 0xFFFFD2BF, 0x00000000, 0x00002D41] := by decide

/-- BUS-4, BUS-5, BUS-6, BUS-7. -/
theorem test_bus_reads :
    State.reset.readAt 9 0x404 = 0x00003EC5 ∧ State.reset.readAt 9 0x424 = 0xFFFFF384 ∧ State.reset.readAt 9 0x480 = 0 ∧
    State.reset.readAt 9 0x05C = 7 ∧ State.reset.readAt 9 0x060 = 0 ∧ State.reset.readAt 9 0x01C = 0 ∧
    State.reset.readAt 9 0x500 = 0 ∧ State.reset.readAt 9 0x010 = 0 ∧ State.reset.readAt 9 0x003 = 0x10080820 := by decide

/-- A bus read puts its word out and leaves the rest (20_memory.md R70). -/
theorem test_bus_read :
    runs (State.reset.withAgenda [.busRead 0x000]) (fun t =>
      t.emits == [.busData 0x10080820] && t.architectural == State.reset) = true := by decide

/-! ## Witnesses: for each statement with hypotheses, states and operands that meet them, at the boundary of each clause -/

/-- The frame of -128 and 127 in the small configuration. -/
def extremes8 : List Int := [-128, 127, -128, 127, -128, 127, -128, 127]

theorem fresh8_inv : fresh8.Inv := by
  exact ⟨by decide, by decide, by decide, by decide, by decide, by decide, by decide, by decide, by decide⟩

theorem ready8_inv : ready8.Inv := by
  exact ⟨by decide, by decide, by decide, by decide, by decide, by decide, by decide, by decide, by decide⟩

theorem pend_frame_inv : (pend ready8 .frame).Inv := by
  exact ⟨by decide, by decide, by decide, by decide, by decide, by decide, by decide, by decide, by decide⟩

/-- A full frame before SYNC_A2C, and a released one before SYNC_C2A. -/
theorem filled8_inv : (filled small extremes8).Inv ∧ released8.Inv := by
  exact ⟨⟨by decide, by decide, by decide, by decide, by decide, by decide, by decide, by decide, by decide⟩,
    ⟨by decide, by decide, by decide, by decide, by decide, by decide, by decide, by decide, by decide⟩⟩

theorem witness_decode_of_encode :
    (Instr.dftb 0).wf small = true ∧ (Instr.dftb 4).wf small = true ∧ (Instr.seta 0 0).wf small = true ∧
    (Instr.seta 1 1).wf small = true := by decide

theorem witness_encode_of_decode :
    decode small 0x00003004 = .ok (.dftb 4) ∧ decode small 0x00009101 = .ok (.seta 1 1) := by decide

theorem witness_decoding_is_total :
    legal small 0x00003004 = true ∧ legal small 0x00003005 = false ∧ legal small 0x00009200 = false ∧
    small ≠ mapConfig ∧ Config.default.n = mapConfig.n ∧ Config.default.numCh = mapConfig.numCh ∧
    Config.default ≠ mapConfig := by decide

theorem witness_ready_is_needed :
    decode small 0x00001000 = .ok .rel ∧ decode small 0x00008000 = .ok .hclr ∧
    needsReady (fieldOp 0x00001000) = true ∧ needsReady (fieldOp 0x00008000) = false := by decide

theorem witness_step_runs : (pend ready8 .frame).cfg.wf ∧ (pend ready8 .frame).executes .frame := by decide

/-- FRAME, with READY = 1, written and then executed. -/
theorem witness_issued_command :
    let s := ready8.withAgenda [cmdEvent .frame, .exec]
    s.cfg.wf ∧ Instr.frame.wf s.cfg = true ∧ s.busy = false ∧ (needsReady Instr.frame.op = true → s.ready = true) ∧
    s.agenda = cmdEvent .frame :: .exec :: [] := by decide

theorem witness_keeps_invariant : (pend ready8 .frame).Inv ∧ ∃ t, step (pend ready8 .frame) = .next t :=
  ⟨pend_frame_inv, _, rfl⟩

theorem witness_no_step_writes_configuration : ∃ t, step (pend ready8 (.seta 1 1)) = .next t := ⟨_, rfl⟩

/-- A state whose configuration is refused, and one whose PCMD faults. -/
theorem witness_stops :
    step { fresh8 with cfg := { small with max := 0 } } = .refused .illFormedConfig ∧
    step (fresh8.withPending 0x00003005) = .fault .illegalPcmd := ⟨rfl, rfl⟩

theorem witness_completes :
    (Instr.dftb 4).wf fresh8.cfg = true ∧ (Instr.dftb 5).wf fresh8.cfg = false ∧
    (Instr.seta 1 1).wf fresh8.cfg = true ∧ (Instr.seta 2 1).wf fresh8.cfg = false := by decide

/-- A step that changes each component, and is no reset. -/
theorem witness_writers :
    runs ((filled small [1]).withAgenda [.sample 5]) (fun t => t.frame != [(0, 1)] && t.count != 1) = true ∧
    runs (released8.withAgenda [.syncC2A]) (fun t => t.count != 8) = true ∧
    runs (pend ready8 (.dftb 4)) (fun t => t.power != ready8.power) = true ∧
    runs (pend { ready8 with power := [1, 2, 3, 4, 5] } .fold) (fun t => t.bucket != ready8.bucket) = true ∧
    runs (pend ready8 (.seta 1 1)) (fun t => t.active != ready8.active) = true ∧
    runs (pend { ready8 with active := [true, true] } .hyst) (fun t =>
      t.hcnt != ready8.hcnt && t.out != ready8.out) = true ∧
    runs ((filled small extremes8).withAgenda [.syncA2C]) (fun t => t.ready) = true ∧
    runs (released8.withAgenda [.syncC2A]) (fun t => !t.relReq) = true ∧
    runs (fresh8.withAgenda [enableAutoEvent]) (fun t => t.acqEn && t.auto) = true ∧
    runs (fresh8.withAgenda [cmdEvent .hclr]) (fun t => t.busy && t.pcmd != fresh8.pcmd) = true ∧
    runs (fresh8.withAgenda [cmdEvent .rel]) (fun t => t.err && t.errcode == 3) = true := by decide

/-- A pending FRAME, and a MAP written while it is. -/
theorem witness_pending_holds :
    let s := (pend ready8 .frame).withAgenda [cmdEvent .map]
    s.busy = true ∧ s.nextEvent ≠ .exec ∧ s.nextEvent ≠ .reset ∧ s.ready = true ∧
    runs s (fun t => t.err && t.busy) = true := by decide

/-- The next state of a step, or the same state where there is none. -/
def after (s : State) (e : Event) : State :=
  match step (s.withAgenda [e]) with
  | .next t => t
  | .fault _ => s
  | .refused _ => s

/-- The states that a schedule passes through. -/
def path (σ : Nat → Event) (s : State) : Nat → State
  | 0 => s
  | k + 1 => after (path σ s k) (σ k)

theorem after_of_step {s t : State} {e : Event} (h : step (s.withAgenda [e]) = .next t) : after s e = t := by
  rw [after, h]

theorem step_after {s : State} {e : Event} (h : runs (s.withAgenda [e]) (fun _ => true) = true) :
    step (s.withAgenda [e]) = .next (after s e) := by
  unfold runs at h
  unfold after
  cases hs : step (s.withAgenda [e]) <;> simp_all

/-- SYNC_A2C is not enabled after reset. -/
theorem fresh8_step (k : Nat) :
    step ({ fresh8 with tick := k }.withAgenda [.syncA2C]) = .next { fresh8 with tick := k + 1 } := by
  rw [step_withAgenda test_small_wf]; rfl

/-- A schedule that runs a pending command, and then only a step that is not enabled. -/
def execFirst : Nat → Event
  | 0 => .exec
  | _ + 1 => .syncA2C

/-- NOP pending after reset. -/
def nopPending : State := { fresh8 with busy := true }

theorem nop_tail (k : Nat) : path execFirst nopPending (k + 1) = { fresh8 with tick := k + 1 } := by
  induction k with
  | zero => exact after_of_step (step_withAgenda test_small_wf .exec [])
  | succ k ih => rw [path, ih]; exact after_of_step (fresh8_step (k + 1))

theorem fresh8_disabled (e : Event) (k : Nat) : { fresh8 with tick := k }.internalEnabled e = false := by
  cases e <;> rfl

/-- A weakly fair run without reset, samples or writes, in which NOP is pending at the start, and whose states are good. -/
theorem witness_fair_run :
    IsRun execFirst (path execFirst nopPending) ∧ WeaklyFair execFirst (path execFirst nopPending) ∧
    (path execFirst nopPending 0).busy = true ∧ (path execFirst nopPending 0).Inv ∧
    ∀ j, execFirst j ≠ .reset ∧ (∀ data, execFirst j ≠ .sample data) ∧ ∀ addr d, execFirst j ≠ .busWrite addr d := by
  refine ⟨fun k => ?_, fun e k h => ?_, rfl,
    ⟨by decide, by decide, by decide, by decide, by decide, by decide, by decide, by decide, by decide⟩, fun j => ?_⟩
  · cases k with
    | zero => exact step_after (by decide)
    | succ k => rw [nop_tail, nop_tail (k + 1)]; exact fresh8_step (k + 1)
  · have h1 := h (k + 1) (by omega)
    rw [nop_tail, fresh8_disabled] at h1
    cases h1
  · cases j <;> simp [execFirst]

/-- The schedule of one capture: the release arrives, eight samples, the frame becomes ready, and then nothing. -/
def capture (k : Nat) : Event := if k = 0 then .syncC2A else if k < 9 then .sample 0 else .syncA2C

/-- The state that the capture ends in, at step `k`. -/
def capturedAt (k : Nat) : State := { held small (List.replicate 8 0) with tick := k }

/-- SYNC_A2C is not enabled while READY = 1. -/
theorem captured_step (k : Nat) : step ((capturedAt k).withAgenda [.syncA2C]) = .next (capturedAt (k + 1)) := by
  rw [step_withAgenda test_small_wf]; rfl

theorem path_add (σ : Nat → Event) (s : State) (m n : Nat) :
    path σ s (m + n) = path (fun k => σ (m + k)) (path σ s m) n := by
  induction n with
  | zero => rfl
  | succ n ih => rw [← Nat.add_assoc, path, ih, path]

/-- Halfway through the capture. -/
theorem capture_half :
    path capture released8 5 =
      { filled small (List.replicate 4 0) with frame := frameOf (0 :: impulse8.tail), tick := 5, emits := [.adcStart] } := by
  decide

theorem capture_tail (k : Nat) : path capture released8 (k + 10) = capturedAt (k + 10) := by
  induction k with
  | zero => rw [show 0 + 10 = 5 + 5 from rfl, path_add, capture_half]; decide
  | succ k ih =>
    have hc : capture (k + 10) = .syncA2C := by simp [capture]
    rw [show k + 1 + 10 = (k + 10) + 1 by omega, path, ih, hc]
    exact after_of_step (captured_step (k + 10))

theorem captured_disabled (e : Event) (k : Nat) : (capturedAt k).internalEnabled e = false := by
  cases e <;> rfl

/-- A weakly fair run with ACQ_EN = 1 and no reset, whose ADC keeps its duty: from REL_REQ = 1 (at 0), and with an
adc_start unanswered and count < N (at 1). -/
theorem witness_capture :
    IsRun capture (path capture released8) ∧ WeaklyFair capture (path capture released8) ∧
    AdcDuty capture (path capture released8) ∧ AdcOwes capture (path capture released8) 1 ∧
    (∀ j, (path capture released8 j).acqEn = true ∧ capture j ≠ .reset) ∧
    ((path capture released8 0).handoff ∧ (path capture released8 0).pendingOk ∧
      (path capture released8 0).relReq = true) ∧
    ((path capture released8 1).handoff ∧ (path capture released8 1).pendingOk ∧
      (path capture released8 1).count < (path capture released8 1).cfg.n) := by
  refine ⟨fun k => ?_, fun e k h => ?_, fun k h => ?_, ⟨1, le_rfl, by decide, fun j d h1 h2 => by omega⟩, fun j => ⟨?_, ?_⟩,
    ⟨by decide, by decide, by decide⟩, ⟨by decide, by decide, by decide⟩⟩
  · by_cases hk : k < 10
    · exact step_after ((by decide : ∀ k < 10,
        runs ((path capture released8 k).withAgenda [capture k]) (fun _ => true) = true) k hk)
    · obtain ⟨m, rfl⟩ : ∃ m, k = m + 10 := ⟨k - 10, by omega⟩
      have hc : capture (m + 10) = .syncA2C := by simp [capture]
      rw [show m + 10 + 1 = (m + 1) + 10 by omega, capture_tail, capture_tail, hc]
      exact captured_step (m + 10)
  · have h1 := h (k + 10) (by omega)
    rw [capture_tail, captured_disabled] at h1
    cases h1
  · by_cases hk : k < 10
    · exact ⟨k, 0, le_rfl, (by decide : ∀ k < 10,
        .adcStart ∈ (path capture released8 k).emits → capture k = .sample 0) k hk h⟩
    · obtain ⟨m, rfl⟩ : ∃ m, k = m + 10 := ⟨k - 10, by omega⟩
      rw [capture_tail] at h
      cases h
  · by_cases hj : j < 10
    · exact (by decide : ∀ j < 10, (path capture released8 j).acqEn = true) j hj
    · obtain ⟨m, rfl⟩ : ∃ m, j = m + 10 := ⟨j - 10, by omega⟩
      rw [capture_tail]; rfl
  · unfold capture
    split_ifs <;> simp

/-- The schedule of the first capture after reset: ENABLE, eight samples, the frame becomes ready, and then nothing. -/
def startup (k : Nat) : Event := if k = 0 then enableEvent else if k < 9 then .sample 0 else .syncA2C

/-- Halfway through the first capture. -/
theorem startup_half :
    path startup fresh8 5 = { filled small (List.replicate 4 0) with tick := 5, emits := [.adcStart] } := by decide

theorem startup_tail (k : Nat) : path startup fresh8 (k + 10) = capturedAt (k + 10) := by
  induction k with
  | zero => rw [show 0 + 10 = 5 + 5 from rfl, path_add, startup_half]; decide
  | succ k ih =>
    have hc : startup (k + 10) = .syncA2C := by simp [startup]
    rw [show k + 1 + 10 = (k + 10) + 1 by omega, path, ih, hc]
    exact after_of_step (captured_step (k + 10))

/-- A weakly fair run from reset whose ADC keeps its duty, with ACQ_EN = 1, no reset, count < N and REL_REQ = 0 from 1 on. -/
theorem witness_startup :
    path startup fresh8 0 = State.resetOf small ∧ IsRun startup (path startup fresh8) ∧
    WeaklyFair startup (path startup fresh8) ∧ AdcDuty startup (path startup fresh8) ∧
    (∀ j, 1 ≤ j → (path startup fresh8 j).acqEn = true ∧ startup j ≠ .reset) ∧
    (path startup fresh8 1).count < small.n ∧ (path startup fresh8 1).relReq = false := by
  refine ⟨rfl, fun k => ?_, fun e k h => ?_, fun k h => ?_, fun j hj => ⟨?_, ?_⟩, by decide, by decide⟩
  · by_cases hk : k < 10
    · exact step_after ((by decide : ∀ k < 10,
        runs ((path startup fresh8 k).withAgenda [startup k]) (fun _ => true) = true) k hk)
    · obtain ⟨m, rfl⟩ : ∃ m, k = m + 10 := ⟨k - 10, by omega⟩
      have hc : startup (m + 10) = .syncA2C := by simp [startup]
      rw [show m + 10 + 1 = (m + 1) + 10 by omega, startup_tail, startup_tail, hc]
      exact captured_step (m + 10)
  · have h1 := h (k + 10) (by omega)
    rw [startup_tail, captured_disabled] at h1
    cases h1
  · by_cases hk : k < 10
    · exact ⟨k, 0, le_rfl, (by decide : ∀ k < 10,
        .adcStart ∈ (path startup fresh8 k).emits → startup k = .sample 0) k hk h⟩
    · obtain ⟨m, rfl⟩ : ∃ m, k = m + 10 := ⟨k - 10, by omega⟩
      rw [startup_tail] at h
      cases h
  · by_cases hk : j < 10
    · exact (by decide : ∀ j < 10, 1 ≤ j → (path startup fresh8 j).acqEn = true) j hk hj
    · obtain ⟨m, rfl⟩ : ∃ m, j = m + 10 := ⟨j - 10, by omega⟩
      rw [startup_tail]; rfl
  · unfold startup
    split_ifs <;> simp [enableEvent]

/-- Each of the four internal steps, enabled. -/
theorem witness_internal_enabled :
    ((filled small extremes8).withAgenda [.syncA2C]).internalEnabled .syncA2C = true ∧
    (released8.withAgenda [.syncC2A]).internalEnabled .syncC2A = true ∧
    (pend ready8 .frame).internalEnabled (pend ready8 .frame).nextEvent = true ∧
    ({ ready8 with auto := true }.withAgenda [.autoIssue]).internalEnabled .autoIssue = true := by decide

/-- Quiescence: after reset, and not while a frame waits for SYNC_A2C. -/
theorem witness_quiescent : fresh8.quiescent ∧ ¬(filled small extremes8).quiescent := by decide

theorem witness_disabled :
    fresh8.cfg.wf ∧ [Event.syncA2C, .syncC2A, .exec, .autoIssue].all fun e =>
      (fresh8.withAgenda [e]).nextEvent == e && !(fresh8.withAgenda [e]).internalEnabled e := by decide

theorem witness_reset_event : small.wf ∧ ((pend ready8 .frame).withAgenda [.reset]).nextEvent = .reset := by decide

/-- The first slot, the last slot, a full frame, and ACQ_EN = 0. -/
theorem witness_sample :
    ((filled small []).acqEn = true ∧ (filled small []).count < small.n) ∧
    ((filled small (impulse8.take 7)).acqEn = true ∧ (filled small (impulse8.take 7)).count < small.n) ∧
    small.n ≤ (filled small impulse8).count ∧ fresh8.acqEn = false ∧
    (fresh8.withAgenda [.sample 0]).nextEvent = .sample 0 := by decide

theorem witness_sample_values : small.wf ∧ small.smin ≤ -128 ∧ -128 ≤ small.smax ∧ small.smin ≤ 127 ∧ 127 ≤ small.smax := by
  decide

theorem witness_synchronizer :
    let s := (filled small extremes8).withAgenda [.syncA2C]
    let u := released8.withAgenda [.syncC2A]
    s.cfg.wf ∧ s.nextEvent = .syncA2C ∧ s.count = s.cfg.n ∧ s.relReq = false ∧ s.ready = false ∧
    u.nextEvent = .syncC2A ∧ u.relReq = true := by decide

/-- adc_start goes out in each of the four places. -/
theorem witness_adc_start :
    [(filled small [1]).withAgenda [.sample 5], fresh8.withAgenda [enableEvent], released8.withAgenda [.syncC2A],
     { fresh8 with cfg := { small with autostart := true } }.withAgenda [.reset]].all fun s =>
      runs s (fun t => t.emits == [.adcStart]) := by decide

/-- One missing sample, and a whole frame of extreme samples. -/
theorem witness_filling :
    let s := filled small (impulse8.take 7)
    let u := filled small []
    s.cfg.wf ∧ s.acqEn = true ∧ s.ready = false ∧ s.relReq = false ∧ s.count < s.cfg.n ∧ s.count + [127].length = s.cfg.n ∧
    u.count + extremes8.length = u.cfg.n ∧ ∀ v ∈ 127 :: extremes8, s.cfg.smin ≤ v ∧ v ≤ s.cfg.smax := by decide

theorem witness_frame_holds :
    let s := ready8.withAgenda [.sample 77]
    s.handoff ∧ s.ready = true ∧ s.nextEvent ≠ .reset ∧ runs s (fun t => t.count == 8) = true := by decide

theorem witness_frame_and_count_writers :
    runs ((filled small [1]).withAgenda [.sample 5]) (fun t => t.frame.read 1 == some 5 && t.count == 2) = true ∧
    runs (released8.withAgenda [.syncC2A]) (fun t => t.count == 0) = true := by decide

theorem witness_handoff :
    small.wf ∧ (pend ready8 .rel).handoff ∧ (pend ready8 .rel).pendingOk ∧ ∃ t, step (pend ready8 .rel) = .next t :=
  ⟨by decide, by decide, by decide, _, rfl⟩

/-- p = -1 under F = 14, and a negative multiple of 2^F. -/
theorem witness_shift_modes :
    ((-1 : Int) < 0 ∧ ¬(2 ^ small.f : Int) ∣ -1) ∧ (2 ^ small.f : Int) ∣ -16384 ∧
    shift small (-1) = -1 ∧ shift { small with shiftMode := .trunc } (-1) = 0 := by decide

theorem witness_correlation :
    small.shiftPoint = .perProduct ∧ { small with shiftPoint := .perSum }.shiftPoint = .perSum := by decide

theorem witness_spectral_range :
    small.wf ∧ small.shiftPoint = .perProduct ∧
    ∀ n < small.n, small.smin ≤ extremes8.getD n 0 ∧ extremes8.getD n 0 ≤ small.smax := by decide

theorem witness_dft : (held small extremes8).cfg.wf ∧ (held small extremes8).frameOk ∧ (held small extremes8).shape := by
  decide

/-- DFTB at its first and last bin. -/
theorem witness_dftb :
    (held small extremes8).cfg.wf ∧ (held small extremes8).frameOk ∧ (held small extremes8).shape ∧
    (0 : BitVec 8).toNat ≤ small.n / 2 ∧ (4 : BitVec 8).toNat ≤ small.n / 2 := by decide

theorem witness_every_bin : ready8.cfg.wf ∧ ready8.power.length = ready8.cfg.nb := by decide

/-- Two states with one frame and different results. -/
theorem witness_spectrum_frame :
    ready8.cfg = { ready8 with power := [] }.cfg ∧ ready8.frame = { ready8 with power := [] }.frame ∧
    ∃ t, exec .dft ready8 = .next t := ⟨rfl, rfl, _, rfl⟩

theorem witness_zero_frame :
    (∀ n < small.n, (held small (List.replicate 8 0)).sampleAt n = 0) ∧ ∀ b, { fresh8 with bucket := [] }.bucketAt b = 0 :=
  ⟨by decide, fun _ => rfl⟩

/-- FOLD with a residual, and with none (NBD = N/2 + 1). -/
theorem witness_fold :
    let s := { fresh8 with power := [1, 2, 3, 4, 5] }
    let u := State.resetOf (Config.sized 8 5 3 small.twiddle)
    s.cfg.wf ∧ s.powerOk ∧ u.cfg.wf ∧ u.powerOk ∧ u.cfg.nbd = u.cfg.n / 2 + 1 := by decide

/-- MAP at the last channel, whose threshold is 2^32 - 1. -/
theorem witness_map : 1 < small.numCh ∧ threshAt { small with thresh := [0, 0xFFFFFFFF] } 1 = 0xFFFFFFFF := by decide

theorem witness_seta :
    fresh8.shape ∧ (1 : BitVec 4).toNat < fresh8.cfg.numCh ∧ (1 : BitVec 8).toNat ≤ 1 ∧ (0 : BitVec 8).toNat ≤ 1 := by
  decide

/-- Channel 0 active at MAX, channel 1 silent with a counter of 1. -/
def mixed8 (mode : AttackMode) : State :=
  { State.resetOf { small with attackMode := mode } with active := [true, false], hcnt := [3, 1], out := [true, true] }

/-- A channel that is active, one silent with a counter, one silent without, in both attack modes. -/
theorem witness_hyst :
    ((mixed8 .inc1).cfg.wf ∧ (mixed8 .inc1).activeAt 0 = true ∧ (mixed8 .inc1).cfg.attackMode = .inc1) ∧
    ((mixed8 .loadMax).cfg.wf ∧ (mixed8 .loadMax).activeAt 0 = true ∧ (mixed8 .loadMax).cfg.attackMode = .loadMax) ∧
    ((mixed8 .inc1).activeAt 1 = false ∧ 0 < ((mixed8 .inc1).hcntAt 1).toNat ∧ 1 < (mixed8 .inc1).cfg.numCh) ∧
    (fresh8.activeAt 1 = false ∧ (fresh8.hcntAt 1).toNat = 0) := by
  refine ⟨?_, ?_, ?_, ?_⟩ <;> decide

theorem witness_hysteresis_invariants :
    let s := pend { fresh8 with hcnt := [3, 0], out := [true, true], active := [true, false] } .hyst
    small.wf ∧ s.bankOk ∧ runs s (fun t => t.hcnt == [3, 0]) = true := by decide

/-- Runs of one silent frame and of more silent frames than the counter holds; and an active run past MAX. -/
theorem witness_runs :
    let s := { fresh8 with hcnt := [2, 0], out := [true, false], active := [false, true] }
    s.cfg.wf ∧ 0 < s.cfg.numCh ∧ s.activeAt 0 = false ∧ 1 < s.cfg.numCh ∧ s.activeAt 1 = true ∧
    (match runCommands (List.replicate 3 .hyst) s with
      | .next t => t.hcnt == [0, 3] && t.out == [false, true]
      | .fault _ => false
      | .refused _ => false) = true := by decide

/-- OUT[0] falls in each of the four ways. -/
theorem witness_output_falls :
    let s := { ready8 with out := [true, false], cfg := { small with thresh := [2, 2] } }
    s.outAt 0 = true ∧ 0 < s.cfg.numCh ∧
    [(s.withAgenda [.reset]), pend s .hclr, pend s .hyst, pend s .frame].all fun u =>
      runs u (fun t => !t.outAt 0) := by decide

theorem witness_nop : (pend fresh8 .nop).cfg.wf ∧ (pend fresh8 .nop).executes .nop := by decide

theorem witness_frame : (held small extremes8).cfg.wf ∧ (held small extremes8).frameOk := by decide

theorem witness_scripts : ready8.cfg.wf ∧ ready8.busy = false ∧ ready8.ready = true := by decide

/-- The two scripts of 44_control.md R190 under schedules with lost samples and a poll that sees BUSY: each ends at its
first quiescent state, with the outputs of DFT-15, and not before. -/
theorem witness_script_ends :
    (ready8.cfg.wf ∧ ready8.handoff) ∧ (ready8.busy = false ∧ ready8.ready = true ∧ ready8.auto = false) ∧
    runs (pend ready8 .frame) (fun u => u.out == [true, true]) = true ∧
    (scriptEnd [pollStatus, .sample 7, cmdEvent .frame, pollStatus, .exec, pollStatus, .sample 9, .syncC2A] frameOps
      ready8).map State.out = some [true, true] ∧
    (scriptEnd [pollStatus, cmdEvent .dft, .exec, pollStatus, cmdEvent .map, pollStatus, .exec, pollStatus, cmdEvent .hyst,
      .exec, pollStatus, cmdEvent .rel, .exec, pollStatus, .syncC2A] fourCommandOps ready8).map State.out =
      some [true, true] ∧
    scriptEnd [pollStatus, cmdEvent .frame, .exec, pollStatus] frameOps ready8 = none := by
  refine ⟨?_, ?_, ?_, ?_, ?_, ?_⟩ <;> decide

theorem witness_auto_issue :
    let s := { ready8 with auto := true }.withAgenda [.autoIssue, .exec]
    s.cfg.wf ∧ s.auto = true ∧ s.busy = false ∧ s.ready = true ∧ s.nextEvent = .autoIssue ∧
    s.agenda = .autoIssue :: .exec :: [] := by decide

/-- A write to CMD at address 0x013, with BUSY, an illegal word, READY missing, and accepted. -/
theorem witness_issue :
    regOf 0x013 = .cmd ∧ fresh8.cfg.wf ∧ (pend fresh8 .nop).busy = true ∧ fresh8.busy = false ∧
    legal small 0x00003005 = false ∧ legal small 0x00001000 = true ∧ needsReady (fieldOp 0x00001000) = true ∧
    fresh8.ready = false ∧ needsReady (fieldOp 0x00006000) = false ∧ ready8.ready = true ∧ ready8.busy = false := by decide

theorem witness_issue_writes : (fresh8.withAgenda [.busWrite 0x013 0x00001000]).writes .cmd 0x00001000 :=
  ⟨0x013, rfl, by decide⟩

theorem witness_writes :
    (fresh8.withAgenda [.busWrite 0x008 3]).writes .ctrl 3 ∧ (fresh8.withAgenda [.busWrite 0x00C 4]).writes .status 4 ∧
    (fresh8.withAgenda [.busWrite 0x500 1]).writes .reserved 1 :=
  ⟨⟨0x008, rfl, by decide⟩, ⟨0x00C, rfl, by decide⟩, ⟨0x500, rfl, by decide⟩⟩

theorem witness_read : fresh8.cfg.wf ∧ (fresh8.withAgenda [.busRead 0x00C]).nextEvent = .busRead 0x00C := by decide

/-- The window statements, at the last byte of a word, with BUSY and READY both ways. -/
theorem witness_windows :
    (ready8.cfg.wf ∧ ready8.frameOk ∧ 3 < 4 ∧ ready8.busy = false ∧ ready8.ready = true) ∧
    ((pend fresh8 .nop).cfg.wf ∧ (pend fresh8 .nop).frameOk ∧ (pend fresh8 .nop).busy = true ∧
      (pend fresh8 .nop).ready = false) := by
  refine ⟨⟨?_, ?_, ?_, ?_⟩, ?_, ?_, ?_⟩ <;> decide

/-- STATUS with READY, with REL_REQ, and with neither. -/
theorem witness_status :
    (ready8.cfg.wf ∧ ready8.handoff ∧ ready8.ready = true) ∧ (released8.handoff ∧ released8.relReq = true) ∧
    (fresh8.handoff ∧ fresh8.ready = false ∧ fresh8.relReq = false) := by
  refine ⟨⟨?_, ?_, ?_⟩, ?_, ?_, ?_⟩ <;> decide

end Sys2Proof.Tests
end

section
/-! PROOFS. A refused step: no command, no event of any agent and no reset is refused, so a refusal can only come from
the check of the configuration (00_scope.md R6; 60_exceptions.md R211). -/

namespace Sys2Proof.Machine

/-- `finish` passes a refusal on and makes none of its own (44_control.md R181). -/
theorem finish_refused_iff {o : Host.Outcome State Fault Refusal} {r : Refusal} :
    finish o = .refused r ↔ o = .refused r := by
  cases o with
  | next u => simp [finish]
  | fault f => simp [finish]
  | refused q => simp [finish]

/-- Every command has a meaning: operands out of range fault, and nothing is refused (44_control.md R185). -/
theorem exec_ne_refused (i : Instr) (s : State) (r : Refusal) : exec i s ≠ .refused r := by
  cases i with
  | nop => exact nofun
  | rel => exact nofun
  | dft => exact nofun
  | fold => exact nofun
  | map => exact nofun
  | hyst => exact nofun
  | frame => exact nofun
  | hclr => exact nofun
  | dftb k =>
    simp only [exec, execDftb]
    split <;> exact nofun
  | seta c v =>
    simp only [exec, execSeta]
    split <;> exact nofun

/-- EXEC is not refused: idle it does nothing, a legal PCMD runs its command, an illegal one faults (log entry 11). -/
theorem engineExec_ne_refused (s : State) (r : Refusal) : engineExec s ≠ .refused r := by
  unfold engineExec
  split
  · split
    · next i _ => exact fun h => exec_ne_refused i s r (finish_refused_iff.1 h)
    · exact nofun
  · exact nofun

/-- Only EXEC can stop at all, and it is not refused: every other event answers a next state. -/
theorem perform_ne_refused (e : Event) (s : State) (r : Refusal) : perform e s ≠ .refused r := by
  cases e with
  | exec => exact engineExec_ne_refused s r
  | busRead addr => exact nofun
  | busWrite addr d => exact nofun
  | sample data => exact nofun
  | syncA2C => exact nofun
  | syncC2A => exact nofun
  | autoIssue => exact nofun
  | reset => exact nofun

/-- A step of a machine whose configuration is ill formed is refused for that reason (00_scope.md R6; log entry 1). -/
theorem step_eq_refused {s : State} (h : ¬s.cfg.wf) : step s = .refused .illFormedConfig := by
  simp only [step, stepAny, if_neg h]

/-- Settles O14, by the two branches of `step`: a well-formed configuration leaves the step to `perform`, which refuses
nothing, and an ill-formed one is refused before any event is looked at. -/
theorem stepRefusesExactlyIllFormedConfigurations : Obligations.StepRefusesExactlyIllFormedConfigurations := by
  intro s r
  by_cases hwf : s.cfg.wf
  · rw [step_eq_perform hwf]
    exact iff_of_false (perform_ne_refused _ _ r) fun h => h.1 hwf
  · rw [step_eq_refused hwf, Host.Outcome.refused.injEq, eq_comm]
    exact (and_iff_right hwf).symm

end Sys2Proof.Machine
end

section
/-! PROOFS. What a step changes, component by component: the table of 10_state.md R21 read as one inversion of `step`,
and the statements that follow from it alone. Where the new state is a named operation on the old one, the fields of a
change are filled in from the `@[simp]` lemmas of that operation. -/

namespace Sys2Proof.Machine

/-- What one step can do to the frame buffer, its fill counter and the two handoff flags (10_state.md R22 to R25). -/
inductive HandoffChange (s t : State) : Prop
  | same (hf : t.frame = s.frame := by simp) (hc : t.count = s.count := by simp)
      (hr : t.ready = s.ready := by simp) (hq : t.relReq = s.relReq := by simp)
  | stored {data : BitVec 16} (he : s.nextEvent = .sample data) (ha : s.acqEn = true) (hn : s.count < s.cfg.n)
      (hf : t.frame = s.frame.write s.count (adcValue s.cfg data) := by simp) (hc : t.count = s.count + 1 := by simp)
      (hr : t.ready = s.ready := by simp) (hq : t.relReq = s.relReq := by simp)
  | raised (he : s.nextEvent = .syncA2C) (hn : s.count = s.cfg.n) (h0 : s.relReq = false)
      (hf : t.frame = s.frame := by simp) (hc : t.count = s.count := by simp)
      (hr : t.ready = true := by simp) (hq : t.relReq = s.relReq := by simp)
  | restarted (he : s.nextEvent = .syncC2A) (h1 : s.relReq = true)
      (hf : t.frame = s.frame := by simp) (hc : t.count = 0 := by simp)
      (hr : t.ready = s.ready := by simp) (hq : t.relReq = false := by simp)
  | released {i : Instr} (hx : s.executes i) (hi : i = .rel ∨ i = .frame) (hb : t.busy = false)
      (hf : t.frame = s.frame) (hc : t.count = s.count) (hr : t.ready = false) (hq : t.relReq = true)

/-- What one step can do to the pending command (10_state.md R28). -/
inductive CommandChange (s t : State) : Prop
  | same (hb : t.busy = s.busy := by simp) (hp : t.pcmd = s.pcmd := by simp)
  | issued {w : Word} (he : s.writes .cmd w ∨ s.nextEvent = .autoIssue) (hl : legal s.cfg w = true)
      (hn : needsReady (fieldOp w) = true → s.ready = true)
      (hb : t.busy = true := by simp) (hp : t.pcmd = w := by simp)
  | finished (he : s.nextEvent = .exec) (hb : t.busy = false) (hp : t.pcmd = s.pcmd)

/-- What one step can do to the error record (10_state.md R29). -/
inductive ErrorChange (s t : State) : Prop
  | same (he : t.err = s.err := by simp) (hc : t.errcode = s.errcode := by simp)
  | cleared {d : Word} (hw : s.writes .status d) (he : t.err = false := by simp) (hc : t.errcode = 0 := by simp)
  | recorded {w : Word} {c : BitVec 4} (hw : s.writes .cmd w) (h0 : 0 < c.toNat) (h3 : c.toNat ≤ 3)
      (he : t.err = true := by simp) (hk : s.err = true → t.errcode = s.errcode := by intro h; simp [h])
      (hc : s.err = false → t.errcode = c := by intro h; simp [h])

/-- What one step can do to the two control bits (10_state.md R26, R27). -/
inductive CtrlChange (s t : State) : Prop
  | same (ha : t.acqEn = s.acqEn := by simp) (hu : t.auto = s.auto := by simp)
  | written {d : Word} (hw : s.writes .ctrl d)

/-- What one step can do to the results of the engine: only a command that runs writes them (10_state.md R30 to R34). -/
inductive ResultsChange (s t : State) : Prop
  | same (hp : t.power = s.power := by simp) (hb : t.bucket = s.bucket := by simp)
      (ha : t.active = s.active := by simp) (hh : t.hcnt = s.hcnt := by simp) (ho : t.out = s.out := by simp)
  | computed {i : Instr} {u : State} (hx : s.executes i) (hu : exec i s.advance = .next u) (ht : t = u.setIdle)

/-- What one step but reset can do, component by component. -/
structure StepChanges (s t : State) : Prop where
  handoff : HandoffChange s t
  command : CommandChange s t
  error : ErrorChange s t
  ctrl : CtrlChange s t
  results : ResultsChange s t

/-- A command writes neither the frame, the counter, the control bits, the pending word nor the error record. -/
theorem exec_next_keeps {i : Instr} {s t : State} (h : exec i s = .next t) :
    t.frame = s.frame ∧ t.count = s.count ∧ t.acqEn = s.acqEn ∧ t.auto = s.auto ∧ t.pcmd = s.pcmd ∧
    t.err = s.err ∧ t.errcode = s.errcode := by
  rcases exec_next_cases h with ⟨_, rfl⟩ | ⟨_, rfl⟩ | ⟨_, rfl⟩ | ⟨_, _, _, rfl⟩ | ⟨_, rfl⟩ | ⟨_, rfl⟩ | ⟨_, rfl⟩ |
    ⟨_, rfl⟩ | ⟨_, rfl⟩ | ⟨_, _, _, _, rfl⟩ <;> simp

/-- The commands that touch the handoff are REL and FRAME, and both release the frame (40_acquisition.md R105). -/
theorem exec_next_handoff {i : Instr} {s t : State} (h : exec i s = .next t) :
    (t.ready = s.ready ∧ t.relReq = s.relReq) ∨ ((i = .rel ∨ i = .frame) ∧ t.ready = false ∧ t.relReq = true) := by
  rcases exec_next_cases h with ⟨rfl, rfl⟩ | ⟨rfl, rfl⟩ | ⟨rfl, rfl⟩ | ⟨_, rfl, _, rfl⟩ | ⟨rfl, rfl⟩ | ⟨rfl, rfl⟩ |
    ⟨rfl, rfl⟩ | ⟨rfl, rfl⟩ | ⟨rfl, rfl⟩ | ⟨_, _, rfl, _, rfl⟩ <;> simp

/-- Which commands write each result (10_state.md R30 to R34). -/
theorem exec_next_results {i : Instr} {s t : State} (h : exec i s = .next t) :
    (t.power ≠ s.power → i = .dft ∨ (∃ k, i = .dftb k) ∨ i = .frame) ∧
    (t.bucket ≠ s.bucket → i = .fold ∨ i = .dft ∨ i = .frame) ∧
    (t.active ≠ s.active → i = .map ∨ (∃ c v, i = .seta c v) ∨ i = .frame) ∧
    (t.hcnt ≠ s.hcnt ∨ t.out ≠ s.out → i = .hyst ∨ i = .hclr ∨ i = .frame) := by
  rcases exec_next_cases h with ⟨rfl, rfl⟩ | ⟨rfl, rfl⟩ | ⟨rfl, rfl⟩ | ⟨_, rfl, _, rfl⟩ | ⟨rfl, rfl⟩ | ⟨rfl, rfl⟩ |
    ⟨rfl, rfl⟩ | ⟨rfl, rfl⟩ | ⟨rfl, rfl⟩ | ⟨_, _, rfl, _, rfl⟩ <;> simp

/-- The word that AUTOISSUE makes pending is legal under every configuration (44_control.md R184). -/
theorem legal_autoWord (cfg : Config) : legal cfg autoWord = true := rfl

/-- A run of the pending command, component by component. -/
theorem stepChanges_of_exec {s u : State} {i : Instr} (hx : s.executes i) (hu : exec i s.advance = .next u) :
    StepChanges s u.setIdle := by
  obtain ⟨hf, hc, ha, hau, hp, he, hec⟩ := exec_next_keeps hu
  refine ⟨?_, .finished hx.1 rfl hp, .same he hec, .same ha hau, .computed hx hu rfl⟩
  rcases exec_next_handoff hu with ⟨hr, hq⟩ | ⟨hi, hr, hq⟩
  · exact .same hf hc hr hq
  · exact .released hx hi rfl hf hc hr hq

/-- What a step can do but for reset, as a table: one line per kind of step. -/
theorem step_changes {s t : State} (h : step s = .next t) (hr : s.nextEvent ≠ .reset) : StepChanges s t := by
  rcases step_next_cases h with ⟨_, _, rfl⟩ | ⟨_, hw, rfl⟩ | ⟨_, hw, rfl⟩ | ⟨_, _, hw, rfl, h0, h3⟩ |
    ⟨_, hw, _, hl, hn, rfl⟩ | ⟨_, he, ⟨ha, hn⟩, rfl⟩ | ⟨he, ⟨hn, hq, _⟩, rfl⟩ | ⟨he, hq, rfl⟩ |
    ⟨he, ⟨_, _, hy⟩, rfl⟩ | ⟨he, _⟩ | ⟨i, u, hx, hu, rfl⟩ | rfl
  · unfold busRead; exact ⟨.same, .same, .same, .same, .same⟩
  · unfold writeCtrl; exact ⟨.same, .same, .same, .written hw, .same⟩
  · exact ⟨.same, .same, .cleared hw, .same, .same⟩
  · exact ⟨.same, .same, .recorded hw h0 h3, .same, .same⟩
  · exact ⟨.same, .issued (.inl hw) hl hn, .same, .same, .same⟩
  · exact ⟨.stored he ha hn, .same, .same, .same, .same⟩
  · exact ⟨.raised he hn hq, .same, .same, .same, .same⟩
  · exact ⟨.restarted he hq, .same, .same, .same, .same⟩
  · exact ⟨.same, .issued (.inr he) (legal_autoWord _) (fun _ => hy), .same, .same, .same⟩
  · exact absurd he hr
  · exact stepChanges_of_exec hx hu
  · exact ⟨.same, .same, .same, .same, .same⟩

/-- What a reset step leads to (70_reset_and_hazards.md R220). -/
theorem step_reset {s t : State} (h : step s = .next t) (he : s.nextEvent = .reset) : t = resetEvent s.advance := by
  have hp := (step_next_iff.1 h).2
  rw [he] at hp
  cases hp
  rfl


/-- Settles O13: each kind of step leaves `cfg` alone, reset included (70_reset_and_hazards.md R220). -/
theorem noStepWritesTheConfiguration : Obligations.NoStepWritesTheConfiguration := by
  intro s t h
  rcases step_next_cases h with ⟨_, _, rfl⟩ | ⟨_, _, rfl⟩ | ⟨_, _, rfl⟩ | ⟨_, _, _, rfl, _⟩ | ⟨_, _, _, _, _, rfl⟩ |
    ⟨_, _, _, rfl⟩ | ⟨_, _, rfl⟩ | ⟨_, _, rfl⟩ | ⟨_, _, rfl⟩ | ⟨_, rfl⟩ | ⟨_, u, _, hu, rfl⟩ | rfl
  · rfl
  · simp [writeCtrl]
  · rfl
  · simp
  · rfl
  · simp
  · rfl
  · simp
  · rfl
  · rfl
  · exact (exec_next_cfg hu).trans s.advance_cfg
  · rfl

/-- The rows FRAME, count, READY and REL_REQ of the table (10_state.md R21). -/
theorem HandoffChange.writers {s t : State} (h : HandoffChange s t) :
    (t.frame ≠ s.frame → ∃ data, s.nextEvent = .sample data) ∧
    (t.count ≠ s.count → (∃ data, s.nextEvent = .sample data) ∨ s.nextEvent = .syncC2A) ∧
    (t.ready ≠ s.ready → s.nextEvent = .syncA2C ∨ s.executes .rel ∨ s.executes .frame) ∧
    (t.relReq ≠ s.relReq → s.nextEvent = .syncC2A ∨ s.executes .rel ∨ s.executes .frame) := by
  cases h with
  | same hf hc hr hq => exact ⟨absurd hf, absurd hc, absurd hr, absurd hq⟩
  | stored he _ _ _ _ hr hq => exact ⟨fun _ => ⟨_, he⟩, fun _ => .inl ⟨_, he⟩, absurd hr, absurd hq⟩
  | raised he _ _ hf hc _ hq => exact ⟨absurd hf, absurd hc, fun _ => .inl he, absurd hq⟩
  | restarted he _ hf _ hr => exact ⟨absurd hf, fun _ => .inr he, absurd hr, fun _ => .inl he⟩
  | released hx hi _ hf hc =>
    have hx : s.executes .rel ∨ s.executes .frame := by rcases hi with rfl | rfl <;> [exact .inl hx; exact .inr hx]
    exact ⟨absurd hf, absurd hc, fun _ => .inr hx, fun _ => .inr hx⟩

/-- The rows BUSY and PCMD of the table (10_state.md R21). -/
theorem CommandChange.writers {s t : State} (h : CommandChange s t) :
    (t.busy ≠ s.busy → (∃ d, s.writes .cmd d) ∨ s.nextEvent = .exec ∨ s.nextEvent = .autoIssue) ∧
    (t.pcmd ≠ s.pcmd → (∃ d, s.writes .cmd d) ∨ s.nextEvent = .autoIssue) := by
  cases h with
  | same hb hp => exact ⟨absurd hb, absurd hp⟩
  | issued he => exact ⟨fun _ => he.imp (⟨_, ·⟩) .inr, fun _ => he.imp_left (⟨_, ·⟩)⟩
  | finished he _ hp => exact ⟨fun _ => .inr (.inl he), absurd hp⟩

/-- The row ERR and ERRCODE of the table (10_state.md R21). -/
theorem ErrorChange.writers {s t : State} (h : ErrorChange s t) :
    t.err ≠ s.err ∨ t.errcode ≠ s.errcode → ∃ d, s.writes .cmd d ∨ s.writes .status d := by
  cases h with
  | same he hc => exact fun hne => absurd hne (by simp [he, hc])
  | cleared hw => exact fun _ => ⟨_, .inr hw⟩
  | recorded hw => exact fun _ => ⟨_, .inl hw⟩

/-- The rows ACQ_EN and AUTO of the table (10_state.md R21). -/
theorem CtrlChange.writers {s t : State} (h : CtrlChange s t) :
    t.acqEn ≠ s.acqEn ∨ t.auto ≠ s.auto → ∃ d, s.writes .ctrl d := by
  cases h with
  | same ha hu => exact fun hne => absurd hne (by simp [ha, hu])
  | written hw => exact fun _ => ⟨_, hw⟩

/-- The rows POWER, BUCKET, ACTIVE, HCNT and OUT of the table (10_state.md R21). -/
theorem ResultsChange.writers {s t : State} (h : ResultsChange s t) :
    (t.power ≠ s.power → s.executes .dft ∨ (∃ k, s.executes (.dftb k)) ∨ s.executes .frame) ∧
    (t.bucket ≠ s.bucket → s.executes .fold ∨ s.executes .dft ∨ s.executes .frame) ∧
    (t.active ≠ s.active → s.executes .map ∨ (∃ c v, s.executes (.seta c v)) ∨ s.executes .frame) ∧
    (t.hcnt ≠ s.hcnt ∨ t.out ≠ s.out → s.executes .hyst ∨ s.executes .hclr ∨ s.executes .frame) := by
  cases h with
  | same hp hb ha hh ho => exact ⟨absurd hp, absurd hb, absurd ha, fun hne => absurd hne (by simp [hh, ho])⟩
  | @computed i u hx hu ht =>
    obtain ⟨hpower, hbucket, hactive, hbank⟩ := exec_next_results hu
    subst ht
    have runs (j : Instr) : i = j → s.executes j := fun hj => hj ▸ hx
    exact ⟨fun hne => (hpower hne).imp (runs _) (.imp (.imp fun _ => runs _) (runs _)),
      fun hne => (hbucket hne).imp (runs _) (.imp (runs _) (runs _)),
      fun hne => (hactive hne).imp (runs _) (.imp (.imp fun _ => .imp fun _ => runs _) (runs _)),
      fun hne => (hbank hne).imp (runs _) (.imp (runs _) (runs _))⟩

/-- Settles O17: each row of the table is read off what one step can do to its components. -/
theorem eachComponentChangesOnlyByItsWriters : Obligations.EachComponentChangesOnlyByItsWriters := by
  intro s t h hreset
  have hs := step_changes h hreset
  obtain ⟨hframe, hcount, hready, hrelReq⟩ := hs.handoff.writers
  obtain ⟨hpower, hbucket, hactive, hbank⟩ := hs.results.writers
  obtain ⟨hbusy, hpcmd⟩ := hs.command.writers
  exact ⟨hframe, hcount, hpower, hbucket, hactive, hbank, hready, hrelReq, hs.ctrl.writers, hbusy, hpcmd,
    hs.error.writers⟩

/-- Settles O29: of the changes a step can make to the frame and its counter, only a storing SAMPLE writes a slot,
which is slot `count`, and only it and SYNC_C2A move `count`. -/
theorem frameAndCountChangeOnlyByTheirWriters : Obligations.FrameAndCountChangeOnlyByTheirWriters := by
  intro s t h hreset
  cases (step_changes h hreset).handoff with
  | same hf hc => exact ⟨fun n hn => absurd (by rw [hf]) hn, .inl hc⟩
  | raised _ _ _ hf hc => exact ⟨fun n hn => absurd (by rw [hf]) hn, .inl hc⟩
  | released _ _ _ hf hc => exact ⟨fun n hn => absurd (by rw [hf]) hn, .inl hc⟩
  | restarted he hq hf hc => exact ⟨fun n hn => absurd (by rw [hf]) hn, .inr (.inr ⟨he, hq, hc⟩)⟩
  | stored he ha hlt hf hc =>
    refine ⟨fun n hne => ⟨⟨_, he⟩, ha, hlt, ?_⟩, .inr (.inl ⟨⟨_, he⟩, ha, hlt, hc⟩)⟩
    by_contra hcount
    exact hne (by rw [hf, Memory.read_write_ne _ _ hcount])

end Sys2Proof.Machine
end

section
/-! PROOFS. The parts of the invariant: each holds at reset and is kept by every step. -/

namespace Sys2Proof.Machine

/-! At reset: the registers have their lengths and read 0, no slot has a value, and each part of the invariant holds
(10_state.md R40, R41). -/

theorem shape_resetOf (cfg : Config) : (State.resetOf cfg).shape := by
  simp [State.shape, State.resetOf]

@[simp] theorem State.powerAt_resetOf (cfg : Config) (k : Nat) : (State.resetOf cfg).powerAt k = 0 := by
  simp [State.powerAt, State.resetOf]

@[simp] theorem State.bucketAt_resetOf (cfg : Config) (b : Nat) : (State.resetOf cfg).bucketAt b = 0 := by
  simp [State.bucketAt, State.resetOf]

@[simp] theorem State.activeAt_resetOf (cfg : Config) (c : Nat) : (State.resetOf cfg).activeAt c = false := by
  simp [State.activeAt, State.resetOf]

@[simp] theorem State.hcntAt_resetOf (cfg : Config) (c : Nat) : (State.resetOf cfg).hcntAt c = 0 := by
  simp [State.hcntAt, State.resetOf]

@[simp] theorem State.outAt_resetOf (cfg : Config) (c : Nat) : (State.resetOf cfg).outAt c = false := by
  simp [State.outAt, State.resetOf]

theorem frameOk_resetOf (cfg : Config) : (State.resetOf cfg).frameOk := by
  simp [State.frameOk, State.resetOf, Memory.wf]

theorem filledOk_resetOf (cfg : Config) : (State.resetOf cfg).filledOk := by
  simp [State.filledOk, State.resetOf]

theorem handoff_resetOf (cfg : Config) : (State.resetOf cfg).handoff := by
  simp [State.handoff, State.resetOf]

theorem bankOk_resetOf (cfg : Config) : (State.resetOf cfg).bankOk := by
  simp [State.bankOk]

theorem errorOk_resetOf (cfg : Config) : (State.resetOf cfg).errorOk := by
  simp [State.errorOk, State.resetOf]

theorem pendingOk_resetOf (cfg : Config) : (State.resetOf cfg).pendingOk := by
  simp [State.pendingOk, State.resetOf]

theorem powerOk_resetOf (cfg : Config) : (State.resetOf cfg).powerOk := by
  simp [State.powerOk]

/-- The state after reset meets the invariant, under every well-formed configuration. -/
theorem inv_resetOf {cfg : Config} (h : cfg.wf) : (State.resetOf cfg).Inv :=
  ⟨h, shape_resetOf cfg, frameOk_resetOf cfg, filledOk_resetOf cfg, handoff_resetOf cfg, bankOk_resetOf cfg,
    errorOk_resetOf cfg, pendingOk_resetOf cfg, powerOk_resetOf cfg⟩

/-- The defaults of 00_scope.md R5 are well formed. -/
theorem default_wf : Config.default.wf := by decide

/-- Settles O12, part by part. -/
theorem resetStateMeetsTheInvariant : Obligations.ResetStateMeetsTheInvariant :=
  ⟨fun _ h => inv_resetOf h, inv_resetOf default_wf⟩

/-- Settles O21: the reset event leads to `State.resetOf` of the configuration, but for the schedule and the step
count. -/
theorem resetEventGivesTheResetValues : Obligations.ResetEventGivesTheResetValues := by
  intro s hwf he
  have h : step s = .next (resetEvent s.advance) := by rw [step_eq_perform hwf, he]; rfl
  exact ⟨_, h, rfl, fun _ => rfl, rfl, rfl, rfl, rfl, rfl, rfl, rfl, rfl, shape_resetOf s.cfg,
    State.powerAt_resetOf s.cfg, State.bucketAt_resetOf s.cfg, State.activeAt_resetOf s.cfg,
    State.hcntAt_resetOf s.cfg, State.outAt_resetOf s.cfg, rfl⟩

/-! The handoff and the pending command (10_state.md R37). -/

/-- A command without operands decodes to itself alone. -/
theorem eq_of_decodePlain {w : Word} {i j : Instr} (h : decodePlain w j = .ok i) : i = j := by
  unfold decodePlain at h
  split at h
  · cases h; rfl
  · cases h

/-- A word that decodes has the OP of the command it decodes to (30_encoding.md R84). -/
theorem op_eq_fieldOp_of_decode {cfg : Config} {w : Word} {i : Instr} (h : decode cfg w = .ok i) :
    i.op = fieldOp w := by
  apply BitVec.eq_of_toNat_eq
  unfold decode at h
  split at h
  · cases h
  split at h
  case h_4 hop | h_10 hop =>
    split_ifs at h
    cases h
    exact hop.symm
  case h_11 => cases h
  all_goals
    rename_i hop
    obtain rfl := eq_of_decodePlain h
    exact hop.symm

/-- REL and FRAME need READY, so one that runs finds READY = 1 (30_encoding.md R89; 40_acquisition.md R107). -/
theorem State.ready_of_pending_release {s : State} {i : Instr} (hp : s.pendingOk) (hx : s.executes i)
    (hi : i = .rel ∨ i = .frame) : s.ready = true := by
  obtain ⟨_, hbusy, hdec⟩ := hx
  refine (hp hbusy).2 ?_
  rw [← op_eq_fieldOp_of_decode hdec]
  rcases hi with rfl | rfl <;> rfl

/-- Each move of the handoff keeps R37; a release does because the command that runs it finds READY = 1. -/
theorem HandoffChange.keeps_handoff {s t : State} (h : HandoffChange s t) (hcfg : t.cfg = s.cfg) (hs : s.handoff)
    (hp : s.pendingOk) : t.handoff := by
  obtain ⟨hle, hready, hrel, hfill⟩ := hs
  cases h with
  | same _ hc hr hq => exact State.handoff_of_eq ⟨hle, hready, hrel, hfill⟩ hcfg hc hr hq
  | stored _ _ hlt _ hc hr hq =>
    obtain ⟨hr0, hq0⟩ := hfill hlt
    unfold State.handoff
    rw [hcfg, hc, hr, hq, hr0, hq0]
    exact ⟨hlt, nofun, nofun, fun _ => ⟨rfl, rfl⟩⟩
  | raised _ hn h0 _ hc hr hq => simp [State.handoff, hcfg, hc, hr, hq, hn, h0]
  | restarted _ h1 _ hc hr hq => simp [State.handoff, hcfg, hc, hr, hq, hrel h1]
  | released hx hi _ _ hc hr hq =>
    have hn := (hready (s.ready_of_pending_release hp hx hi)).1
    simp [State.handoff, hcfg, hc, hr, hq, hn]

/-- READY falls only when a command has run, and then none is pending: a step that leaves BUSY = 1 leaves READY = 1
(40_acquisition.md R107). -/
theorem HandoffChange.ready_of_busy {s t : State} (h : HandoffChange s t) (hb : t.busy = true) (hs : s.ready = true) :
    t.ready = true := by
  cases h with
  | same _ _ hr => rw [hr, hs]
  | stored _ _ _ _ _ hr => rw [hr, hs]
  | restarted _ _ _ _ hr => rw [hr, hs]
  | raised _ _ _ _ _ hr => exact hr
  | released _ _ hidle => rw [hidle] at hb; cases hb

/-- A command becomes pending only with the checks of 44_control.md R180 passed, and keeps READY while it is pending. -/
theorem StepChanges.keeps_pendingOk {s t : State} (h : StepChanges s t) (hcfg : t.cfg = s.cfg) (hp : s.pendingOk) :
    t.pendingOk := by
  intro hb
  have hready := h.handoff.ready_of_busy hb
  rw [hcfg]
  cases h.command with
  | same hb' hp' =>
    obtain ⟨hlegal, hneeds⟩ := hp (hb' ▸ hb)
    exact hp' ▸ ⟨hlegal, fun hn => hready (hneeds hn)⟩
  | issued _ hlegal hneeds _ hp' => exact hp' ▸ ⟨hlegal, fun hn => hready (hneeds hn)⟩
  | finished _ hidle => rw [hidle] at hb; cases hb

/-- Settles O30: reset meets the handoff invariants, and each change a step can make to the handoff keeps them; that a
pending REL or FRAME has READY = 1 is what keeps them over a release. -/
theorem handoffInvariantsHold : Obligations.HandoffInvariantsHold := by
  refine ⟨fun cfg _ => ⟨handoff_resetOf cfg, pendingOk_resetOf cfg⟩, fun s t hs hp h => ?_⟩
  by_cases he : s.nextEvent = .reset
  · rw [step_reset h he]
    exact ⟨handoff_resetOf s.cfg, pendingOk_resetOf s.cfg⟩
  · have hcfg := noStepWritesTheConfiguration s t h
    have hc := step_changes h he
    exact ⟨hc.handoff.keeps_handoff hcfg hs hp, hc.keeps_pendingOk hcfg hp⟩

/-! The hysteresis bank (10_state.md R38). -/

/-- MAX is at most 255 in a well-formed configuration (00_scope.md R5). -/
theorem max_le_of_wf {cfg : Config} (h : cfg.wf) : cfg.max ≤ 255 := by
  obtain ⟨⟨_, _, _, _, _, _, _, _, _, _, _, _, hmax, _⟩, _⟩ := h
  exact hmax

/-- The next counter of a channel is at most MAX if the counter was, and above 0 only with the output on
(43_hysteresis.md R160). -/
theorem hstep_bounds {cfg : Config} (hmax : cfg.max ≤ 255) (a : Bool) {cnt : Byte} (o : Bool)
    (hcnt : cnt.toNat ≤ cfg.max) :
    (hstep cfg a cnt o).1.toNat ≤ cfg.max ∧ (0 < (hstep cfg a cnt o).1.toNat → (hstep cfg a cnt o).2 = true) := by
  rw [hstep_spec]
  split
  · refine ⟨?_, fun _ => rfl⟩
    rw [attack_toNat hmax]
    cases cfg.attackMode
    · exact min_le_right _ _
    · exact le_rfl
  · split
    · simp
    · refine ⟨?_, fun _ => rfl⟩
      simp only [BitVec.toNat_ofNat]
      omega

/-- HYST keeps R38 on every channel. -/
theorem bankOk_hystAll {s : State} (hmax : s.cfg.max ≤ 255) (hs : s.bankOk) : s.hystAll.bankOk := by
  intro c hc
  have hcnt : s.hystAll.hcntAt c = (s.hstepAt c).1 := getD_map_range _ _ hc
  have hout : s.hystAll.outAt c = (s.hstepAt c).2 := getD_map_range _ _ hc
  rw [hcnt, hout]
  exact hstep_bounds hmax _ _ (hs c hc).1

/-- HCLR leaves a bank that meets R38, whatever it was before. -/
theorem bankOk_clearBank (s : State) : s.clearBank.bankOk := by
  simp [State.bankOk, State.hcntAt]

/-- Every command keeps R38: only HYST, FRAME and HCLR write the bank. -/
theorem exec_keeps_bankOk {i : Instr} {s t : State} (hmax : s.cfg.max ≤ 255) (hs : s.bankOk) (h : exec i s = .next t) :
    t.bankOk := by
  rcases exec_next_cases h with ⟨_, rfl⟩ | ⟨_, rfl⟩ | ⟨_, rfl⟩ | ⟨_, _, _, rfl⟩ | ⟨_, rfl⟩ | ⟨_, rfl⟩ | ⟨_, rfl⟩ |
    ⟨_, rfl⟩ | ⟨_, rfl⟩ | ⟨_, _, _, _, rfl⟩
  · exact hs
  · exact hs
  · exact hs
  · exact hs
  · exact hs
  · exact hs
  · exact bankOk_hystAll hmax hs
  · exact bankOk_hystAll (s := s.dftAll.mapAll) hmax hs
  · exact bankOk_clearBank s
  · exact hs

/-- Settles O47: only a command that runs writes the bank, and HYST, FRAME and HCLR keep R38. -/
theorem hysteresisInvariantsHold : Obligations.HysteresisInvariantsHold := by
  refine ⟨fun cfg _ => bankOk_resetOf cfg, fun s t hs h => ?_⟩
  by_cases he : s.nextEvent = .reset
  · rw [step_reset h he]
    exact bankOk_resetOf s.cfg
  · cases (step_changes h he).results with
    | same _ _ _ hh ho => exact State.bankOk_of_eq hs (noStepWritesTheConfiguration s t h) hh ho
    | computed _ hu ht =>
      have hmax := max_le_of_wf (step_next_iff.1 h).1
      subst ht
      exact (exec_keeps_bankOk (s := s.advance) hmax hs hu :)

end Sys2Proof.Machine
end

section
/-! PROOFS. Every step keeps the invariant of the machine: the bound on a stored power, and the parts put together. -/

namespace Sys2Proof.Machine

/-! The bound on a power (00_scope.md R7; 41_spectral.md R126). -/

/-- The quotient rounded up, times the divisor, reaches the dividend. -/
theorem le_ceilDiv_mul (a : Nat) {b : Nat} (hb : 0 < b) : a ≤ ceilDiv a b * b := by
  rw [mul_comm]
  exact le_smul_ceilDiv hb

/-- TMAX bounds every word of the table, and the 0 read beyond it. -/
theorem abs_twiddleAt_le (cfg : Config) (j : Nat) : |twiddleAt cfg j| ≤ cfg.tmax := by
  have bound (l : List Int) : ∀ t ∈ l, t.natAbs ≤ (l.map Int.natAbs).foldr Nat.max 0 := by
    induction l with
    | nil => simp
    | cons a l ih =>
      intro t ht
      rcases List.mem_cons.1 ht with rfl | ht
      · exact le_max_left _ _
      · exact (ih t ht).trans (le_max_right _ _)
  unfold twiddleAt
  rw [List.getD_eq_getElem?_getD]
  cases ht : cfg.twiddle[j]? with
  | none => simp
  | some t =>
    rw [Option.getD_some, Int.abs_eq_natAbs]
    exact_mod_cast bound _ t (List.mem_of_getElem? ht)

/-- The scaling shift of a number takes a bound on it to the bound's quotient rounded up, in both modes
(41_spectral.md R123). -/
theorem abs_shift_le (cfg : Config) {p : Int} {b : Nat} (h : |p| ≤ b) : |shift cfg p| ≤ ceilDiv b (2 ^ cfg.f) := by
  have hd : 0 < 2 ^ cfg.f := by positivity
  have hb : (b : Int) ≤ ceilDiv b (2 ^ cfg.f) * 2 ^ cfg.f := by exact_mod_cast le_ceilDiv_mul b hd
  unfold shift
  cases cfg.shiftMode with
  | floor =>
    obtain ⟨hlo, hhi⟩ := abs_le.1 h
    refine abs_le.2 ⟨?_, ?_⟩
    · exact Int.le_ediv_of_mul_le (by positivity) (by linarith)
    · exact Int.ediv_le_of_le_mul (by positivity) (by linarith)
  | trunc =>
    have hq : |truncDiv p (2 ^ cfg.f)| = (p.natAbs / 2 ^ cfg.f : Nat) := by
      rw [Int.abs_eq_natAbs, truncDiv, Int.natAbs_tdiv, Int.natAbs_pow]
      rfl
    rw [hq]
    have hp : p.natAbs ≤ b := by
      rw [Int.abs_eq_natAbs] at h
      exact_mod_cast h
    exact_mod_cast Nat.div_le_of_le_mul (hp.trans (mul_comm _ (2 ^ cfg.f) ▸ le_ceilDiv_mul b hd))

/-- |re| and |im| are at most A, in both places of the shift (00_scope.md R7; 41_spectral.md R126). -/
theorem abs_correlate_le (cfg : Config) {x : Nat → Int} (hx : ∀ n, |x n| ≤ 2 ^ (cfg.sb - 1)) (phase : Nat → Nat) :
    |correlate cfg x phase| ≤ cfg.accBound := by
  have hprod (n : Nat) : |product cfg x phase n| ≤ (2 ^ (cfg.sb - 1) * cfg.tmax : Nat) := by
    unfold product
    rw [abs_mul]
    push_cast
    exact mul_le_mul (hx n) (abs_twiddleAt_le cfg _) (abs_nonneg _) (by positivity)
  unfold correlate Config.accBound
  cases cfg.shiftPoint with
  | perProduct => exact_mod_cast accumulate_bound cfg.n fun n _ => abs_shift_le cfg (hprod n)
  | perSum =>
    refine abs_shift_le cfg ?_
    rw [mul_assoc]
    exact_mod_cast accumulate_bound cfg.n fun n _ => hprod n

/-- A sample's magnitude is at most that of SMIN. -/
theorem abs_sampleAt_le {s : State} (hf : s.frameOk) (n : Nat) : |s.sampleAt n| ≤ 2 ^ (s.cfg.sb - 1) := by
  obtain ⟨hlo, hhi⟩ := State.sampleAt_range hf n
  unfold Config.smin at hlo
  unfold Config.smax at hhi
  exact abs_le.2 ⟨by linarith, by linarith⟩

/-- The power of a bin is at most floor(2 A^2 / N^2) (41_spectral.md R126). -/
theorem binPower_le {s : State} (hf : s.frameOk) (k : Nat) : binPower s.cfg s.sampleAt k ≤ s.cfg.powerBound := by
  have square {v : Int} (hv : |v| ≤ s.cfg.accBound) : v * v ≤ s.cfg.accBound ^ 2 := by
    rw [← sq]
    exact sq_le_sq' (abs_le.1 hv).1 (abs_le.1 hv).2
  have hcorr := abs_correlate_le s.cfg (abs_sampleAt_le hf)
  have hre := square (hcorr (cosPhase s.cfg k))
  have him := square ((abs_neg _).trans_le (hcorr (sinPhase s.cfg k)))
  unfold binPower floorDiv Config.powerBound
  push_cast
  rw [sq (s.cfg.n : Int), two_mul]
  rcases Nat.eq_zero_or_pos s.cfg.n with hn | hn
  · simp [hn]
  · exact Int.ediv_le_ediv (by positivity) (add_le_add hre him)

/-- A stored power is within the bound of R126, which needs no overflow check: narrowing never makes it greater. -/
theorem powerWord_le {s : State} (hf : s.frameOk) (k : Nat) : (s.powerWord k).toNat ≤ s.cfg.powerBound := by
  unfold State.powerWord zext32
  rw [BitVec.toNat_ofNat]
  exact (Nat.mod_le _ _).trans (Int.toNat_le.2 (binPower_le hf k))

/-- POWER after DFTB: the one bin is computed, and every other keeps its value (41_spectral.md R128). -/
theorem State.powerAt_dftBin (s : State) {k : Nat} (hk : k < s.power.length) (j : Nat) :
    (s.dftBin k).powerAt j = if j = k then s.powerWord k else s.powerAt j := by
  unfold State.powerAt
  rw [State.dftBin_power, List.getD_eq_getElem?_getD, List.getElem?_set]
  by_cases hj : j = k
  · simp [hj, hk]
  · simp [hj, Ne.symm hj]

/-- DFT stores powers within the bound. -/
theorem powerOk_dftAll {s : State} (hf : s.frameOk) : s.dftAll.powerOk := by
  intro k hk
  have hpower : s.dftAll.powerAt k = s.powerWord k := getD_map_range _ _ hk
  rw [hpower]
  exact powerWord_le hf k

/-- DFTB stores a power within the bound. -/
theorem powerOk_dftBin {s : State} (hf : s.frameOk) (hs : s.powerOk) {k : Nat} (hk : k < s.power.length) :
    (s.dftBin k).powerOk := by
  intro j hj
  rw [State.powerAt_dftBin s hk]
  split
  · exact powerWord_le hf k
  · exact hs j hj

/-- Every command keeps the bound on the powers: only DFT, DFTB and FRAME write POWER. -/
theorem exec_keeps_powerOk {i : Instr} {s t : State} (hf : s.frameOk) (hlen : s.power.length = s.cfg.nb)
    (hs : s.powerOk) (h : exec i s = .next t) : t.powerOk := by
  rcases exec_next_cases h with ⟨_, rfl⟩ | ⟨_, rfl⟩ | ⟨_, rfl⟩ | ⟨k, _, hk, rfl⟩ | ⟨_, rfl⟩ | ⟨_, rfl⟩ | ⟨_, rfl⟩ |
    ⟨_, rfl⟩ | ⟨_, rfl⟩ | ⟨_, _, _, _, rfl⟩
  · exact hs
  · exact hs
  · exact powerOk_dftAll hf
  · exact powerOk_dftBin hf hs (hlen ▸ Nat.lt_succ_of_le hk)
  · exact hs
  · exact hs
  · exact hs
  · exact powerOk_dftAll hf
  · exact hs
  · exact hs

/-! The lengths of the registers that a command writes as a whole (10_state.md R21). -/

@[simp] theorem State.length_power_dftAll (s : State) : s.dftAll.power.length = s.cfg.nb := by
  simp [State.dftAll, State.dftBins]

@[simp] theorem State.length_bucket_foldBuckets (s : State) : s.foldBuckets.bucket.length = s.cfg.nbk := by
  simp [State.foldBuckets, Config.nbk]

@[simp] theorem State.length_bucket_dftAll (s : State) : s.dftAll.bucket.length = s.cfg.nbk := by
  simp [State.dftAll]

@[simp] theorem State.length_active_mapAll (s : State) : s.mapAll.active.length = s.cfg.numCh := by
  simp [State.mapAll]

@[simp] theorem State.length_hcnt_hystAll (s : State) : s.hystAll.hcnt.length = s.cfg.numCh := by
  simp [State.hystAll]

@[simp] theorem State.length_out_hystAll (s : State) : s.hystAll.out.length = s.cfg.numCh := by
  simp [State.hystAll]

/-- Every command keeps the lengths of the registers. -/
theorem exec_keeps_shape {i : Instr} {s t : State} (hs : s.shape) (h : exec i s = .next t) : t.shape := by
  obtain ⟨hp, hb, ha, hh, ho⟩ := hs
  rcases exec_next_cases h with ⟨_, rfl⟩ | ⟨_, rfl⟩ | ⟨_, rfl⟩ | ⟨k, _, _, rfl⟩ | ⟨_, rfl⟩ | ⟨_, rfl⟩ | ⟨_, rfl⟩ |
    ⟨_, rfl⟩ | ⟨_, rfl⟩ | ⟨_, _, _, _, rfl⟩ <;> simp [State.shape, hp, hb, ha, hh, ho]

/-! The parts put together. -/

/-- The frame buffer keeps its canonical form and ranges, and the slots below count keep having values: a storing SAMPLE
writes slot count, and SYNC_C2A empties the range (10_state.md R22, R41). -/
theorem HandoffChange.keeps_frame {s t : State} (h : HandoffChange s t) (hcfg : t.cfg = s.cfg) (hf : s.frameOk)
    (hv : s.filledOk) : t.frameOk ∧ t.filledOk := by
  cases h with
  | same hf' hc => exact ⟨State.frameOk_of_eq hf hcfg hf', State.filledOk_of_eq hv hf' hc⟩
  | raised _ _ _ hf' hc => exact ⟨State.frameOk_of_eq hf hcfg hf', State.filledOk_of_eq hv hf' hc⟩
  | released _ _ _ hf' hc => exact ⟨State.frameOk_of_eq hf hcfg hf', State.filledOk_of_eq hv hf' hc⟩
  | restarted _ _ hf' hc => exact ⟨State.frameOk_of_eq hf hcfg hf', by simp [State.filledOk, hc]⟩
  | stored _ _ hlt hf' hc =>
    obtain ⟨hwf, hrange⟩ := hf
    constructor
    · unfold State.frameOk
      rw [hcfg, hf']
      refine ⟨Memory.wf_write hwf _ _, fun e he => ?_⟩
      rcases Memory.mem_write he with rfl | he
      · exact ⟨hlt, adcValue_range s.cfg _⟩
      · exact hrange e he
    · intro n hn
      rw [hf', Memory.read_write]
      split
      · rfl
      · exact hv n (by omega)

/-- ERRCODE stays 0 exactly while ERR = 0, since the codes recorded are 1 to 3 (60_exceptions.md R201, R202). -/
theorem ErrorChange.keeps_errorOk {s t : State} (h : ErrorChange s t) (hs : s.errorOk) : t.errorOk := by
  cases h with
  | same he hc => exact State.errorOk_of_eq hs he hc
  | cleared _ he hc => simp [State.errorOk, he, hc]
  | recorded _ h0 h3 he hk hc =>
    obtain ⟨hzero, hrange⟩ := hs
    have hcode : t.errcode ≠ 0 ∧ t.errcode.toNat ≤ 3 := by
      cases herr : s.err with
      | true =>
        rw [hk herr]
        exact ⟨fun h => absurd (hzero.1 h) (by simp [herr]), hrange⟩
      | false =>
        rw [hc herr]
        exact ⟨fun h => absurd h0 (by simp [h]), h3⟩
    exact ⟨iff_of_false hcode.1 (by simp [he]), hcode.2⟩

/-- The results keep their lengths and the bound on the powers: only a command that runs writes them. -/
theorem ResultsChange.keeps_shape_powerOk {s t : State} (h : ResultsChange s t) (hcfg : t.cfg = s.cfg) (hf : s.frameOk)
    (hs : s.shape) (hp : s.powerOk) : t.shape ∧ t.powerOk := by
  cases h with
  | same hp' hb ha hh ho =>
    exact ⟨State.shape_of_eq hs hcfg (by rw [hp']) (by rw [hb]) (by rw [ha]) (by rw [hh]) (by rw [ho]),
      State.powerOk_of_eq hp hcfg hp'⟩
  | computed _ hu ht =>
    subst ht
    exact ⟨(exec_keeps_shape (s := s.advance) hs hu :), (exec_keeps_powerOk (s := s.advance) hf hs.1 hp hu :)⟩

/-- Settles O11: a reset step leads to a state that meets the invariant, and each change that any other step can make to
a component keeps the parts that speak of it. -/
theorem everyStepKeepsTheInvariant : Obligations.EveryStepKeepsTheInvariant := by
  intro s t hinv h
  obtain ⟨hwf, hshape, hframe, hfilled, hhandoff, hbank, herror, hpending, hpower⟩ := hinv
  by_cases he : s.nextEvent = .reset
  · rw [step_reset h he]
    exact inv_resetOf hwf
  have hcfg := noStepWritesTheConfiguration s t h
  have hc := step_changes h he
  obtain ⟨hframe', hfilled'⟩ := hc.handoff.keeps_frame hcfg hframe hfilled
  obtain ⟨hhandoff', hpending'⟩ := handoffInvariantsHold.2 s t hhandoff hpending h
  have hbank' := hysteresisInvariantsHold.2 s t hbank h
  obtain ⟨hshape', hpower'⟩ := hc.results.keeps_shape_powerOk hcfg hframe hshape hpower
  exact ⟨hcfg ▸ hwf, hshape', hframe', hfilled', hhandoff', hbank', hc.error.keeps_errorOk herror, hpending', hpower'⟩

end Sys2Proof.Machine
end

section
/-! PROOFS. What the steps can do to the frame while it is ready, and what a bus write and a bus read do to the state
(20_memory.md R57, R58, R69, R70, R73). -/

namespace Sys2Proof.Machine

/-- Settles O28: with READY = 1 the frame is full, so no SAMPLE stores, and no release is waiting, so no SYNC_C2A
restarts acquisition; no other change of the handoff touches the frame or count. -/
theorem frameHoldsStillWhileReady : Obligations.FrameHoldsStillWhileReady := by
  intro s t hhandoff hready hreset h
  obtain ⟨-, hfull, -⟩ := hhandoff
  obtain ⟨hcount, hrel⟩ := hfull hready
  cases (step_changes h hreset).handoff with
  | same hf hc => exact ⟨hf, hc⟩
  | raised _ _ _ hf hc => exact ⟨hf, hc⟩
  | released _ _ _ hf hc => exact ⟨hf, hc⟩
  | stored _ _ hlt => exact absurd hcount (Nat.ne_of_lt hlt)
  | restarted _ hq => rw [hrel] at hq; cases hq

/-! Writes (20_memory.md R57, R58, R69; 44_control.md R187). -/

/-- A step that writes a register does to the state what the write does. -/
theorem step_of_writes {s : State} (hwf : s.cfg.wf) {r : Reg} {d : Word} (h : s.writes r d) :
    step s = .next (writeReg d s.advance r) := by
  obtain ⟨addr, he, rfl⟩ := h
  rw [step_eq_perform hwf, he]
  rfl

/-- A write to CTRL as one record update, in a state whose trace is empty, as at the start of a step
(20_memory.md R57). -/
theorem writeCtrl_eq (d : Word) {s : State} (h : s.emits = []) : writeCtrl d s = { s with
    acqEn := d.getLsbD 0, auto := d.getLsbD 1
    emits := if s.acqEn = false ∧ d.getLsbD 0 = true ∧ s.count < s.cfg.n ∧ s.relReq = false
      then [.adcStart] else [] } := by
  simp only [writeCtrl, State.emitStartIf, State.emit, State.setCtrl, h, Bool.and_eq_true, Bool.not_eq_true',
    decide_eq_true_eq, and_assoc]
  split
  · rfl
  · rw [← h]

/-- A write to STATUS as one record update (20_memory.md R58). -/
theorem writeStatus_eq (d : Word) (s : State) : writeStatus d s = { s with
    err := if d.getLsbD 2 then false else s.err
    errcode := if d.getLsbD 2 then 0 else s.errcode } := by
  rcases writeStatus_cases d s with ⟨hd, h⟩ | ⟨hd, h⟩ <;> rw [h, hd] <;> rfl

/-- Every register but CTRL, STATUS and CMD ignores writes (20_memory.md R69). -/
theorem writeReg_eq_self (d : Word) (s : State) {r : Reg} (hctrl : r ≠ .ctrl) (hstatus : r ≠ .status)
    (hcmd : r ≠ .cmd) : writeReg d s r = s := by
  cases r with
  | ctrl => exact absurd rfl hctrl
  | status => exact absurd rfl hstatus
  | cmd => exact absurd rfl hcmd
  | _ => rfl

/-- Settles O56, by the register the write reaches. -/
theorem busWritesReachOnlyTheirRegister : Obligations.BusWritesReachOnlyTheirRegister := by
  intro s d hwf
  refine ⟨fun h => ?_, fun h => ?_, fun r hctrl hstatus hcmd h => ?_⟩
  · rw [step_of_writes hwf h]
    exact congrArg _ (writeCtrl_eq d s.advance_emits)
  · rw [step_of_writes hwf h]
    exact congrArg _ (writeStatus_eq d s.advance)
  · rw [step_of_writes hwf h, writeReg_eq_self d _ hctrl hstatus hcmd]

/-! Reads change no state (20_memory.md R70; 44_control.md R186). -/

/-- The model's bookkeeping before a step changes no register's word. -/
@[simp] theorem State.readReg_advance (s : State) (d : Word) (r : Reg) : s.advance.readReg d r = s.readReg d r := by
  cases r <;> rfl

/-- Settles O57: the step is `busRead`, which only adds the word to the trace; the draw is the step's free value. -/
theorem busReadChangesNoState : Obligations.BusReadChangesNoState := by
  intro s addr hwf he
  have hstep : step s = .next (busRead addr s.advance) := by
    rw [step_eq_perform hwf, he]
    rfl
  refine ⟨_, hstep, rfl, Config.freeWord s.advance.tick, ?_⟩
  simp [busRead, State.readAt]

end Sys2Proof.Machine
end

section
/-! PROOFS. The words that the registers read as, field by field (20_memory.md R55 to R69). -/

namespace Sys2Proof.Machine

/-! Values that fit their field: the ranges of the constants and of a sample, and words as numbers. -/

/-- Bounds of a well-formed configuration on the parameters that registers hold (00_scope.md R5). -/
theorem Config.bounds_of_wf {cfg : Config} (h : cfg.wf) :
    cfg.n ≤ 64 ∧ cfg.sb ≤ 16 ∧ cfg.f ≤ 14 ∧ cfg.numCh ≤ 16 ∧ cfg.nbd ≤ 33 := by
  obtain ⟨⟨hn, -, hsb, -, -, hf, -, -, hnumCh, -, hnbd, -⟩, -⟩ := h
  have hn64 : cfg.n ≤ 64 := by
    simp only [List.mem_cons, List.not_mem_nil, or_false] at hn
    omega
  exact ⟨hn64, hsb, hf, hnumCh, by omega⟩

/-- SEL names a bucket, also beyond the table, where it reads 0 (00_scope.md R6). -/
theorem selAt_le {cfg : Config} (h : cfg.wf) (c : Nat) : selAt cfg c ≤ cfg.nbd := by
  obtain ⟨-, -, hsel, -⟩ := h
  rw [selAt, List.getD_eq_getElem?_getD]
  cases hc : cfg.sel[c]? with
  | none => exact Nat.zero_le _
  | some b => exact hsel b (List.mem_of_getElem? hc)

/-- A twiddle word fits 16 bits, also beyond the table, where it reads 0 (00_scope.md R6). -/
theorem twiddleAt_range {cfg : Config} (h : cfg.wf) (j : Nat) :
    -2 ^ 15 ≤ twiddleAt cfg j ∧ twiddleAt cfg j ≤ 2 ^ 15 - 1 := by
  obtain ⟨-, htwiddle, -⟩ := h
  rw [twiddleAt, List.getD_eq_getElem?_getD]
  cases hj : cfg.twiddle[j]? with
  | none => decide
  | some t => exact htwiddle t (List.mem_of_getElem? hj)

/-- A sample fits 16 bits, as SB is at most 16 (00_scope.md R5). -/
theorem State.sampleAt_range_of_wf {s : State} (hwf : s.cfg.wf) (hf : s.frameOk) (n : Nat) :
    -2 ^ 15 ≤ s.sampleAt n ∧ s.sampleAt n ≤ 2 ^ 15 - 1 := by
  obtain ⟨-, hsb, -⟩ := Config.bounds_of_wf hwf
  have hpow : (2 : Int) ^ (s.cfg.sb - 1) ≤ 2 ^ 15 := pow_le_pow_right₀ (by decide) (by omega)
  have h := s.sampleAt_range hf n
  simp only [Config.smin, Config.smax] at h
  omega

/-- A value of 16 bits, extended to a word, keeps its value (00_scope.md R9). -/
theorem toInt_sext32 {v : Int} (h : -2 ^ 15 ≤ v ∧ v ≤ 2 ^ 15 - 1) : (sext32 v).toInt = v :=
  BitVec.toInt_ofInt_eq_self (by decide) (by omega) (by omega)

/-- A number that fits a word keeps its value (00_scope.md R9). -/
theorem toNat_zext32 {v : Nat} (h : v < 2 ^ 32) : (zext32 v).toNat = v := Nat.mod_eq_of_lt h

theorem toNat_append_eq_add {m n : Nat} (x : BitVec m) (y : BitVec n) :
    (x ++ y).toNat = x.toNat * 2 ^ n + y.toNat := by
  rw [BitVec.toNat_append, ← Nat.shiftLeft_add_eq_or_of_lt y.isLt, Nat.shiftLeft_eq]

theorem toNat_ofBool_eq_ite (b : Bool) : (BitVec.ofBool b).toNat = if b then 1 else 0 := by
  cases b <;> rfl

/-- The bits of a concatenation, read off its number: a form that `simp` matches at any width. -/
theorem testBit_toNat_append {m n : Nat} (x : BitVec m) (y : BitVec n) (i : Nat) :
    (x ++ y).toNat.testBit i = if i < n then y.toNat.testBit i else x.toNat.testBit (i - n) := by
  simp only [BitVec.testBit_toNat, BitVec.getLsbD_append]

/-! PARAM0, PARAM1, CTRL and the flag words as numbers and bits. -/

/-- PARAM0 as a number (20_memory.md R55). -/
theorem toNat_param0Word {cfg : Config} (h : cfg.wf) :
    (param0Word cfg).toNat = cfg.n + 2 ^ 8 * cfg.numCh + 2 ^ 16 * cfg.nbd + 2 ^ 24 * cfg.max := by
  obtain ⟨hn, -, -, hnumCh, hnbd⟩ := Config.bounds_of_wf h
  have hmax := max_le_of_wf h
  simp only [param0Word, toNat_append_eq_add, BitVec.toNat_ofNat]
  omega

/-- PARAM1 as a number (20_memory.md R56). -/
theorem toNat_param1Word {cfg : Config} (h : cfg.wf) : (param1Word cfg).toNat =
    cfg.sb + 2 ^ 8 * cfg.f + 2 ^ 16 * (if cfg.shiftMode = .trunc then 1 else 0) +
      2 ^ 17 * (if cfg.shiftPoint = .perSum then 1 else 0) +
      2 ^ 18 * (if cfg.attackMode = .loadMax then 1 else 0) + 2 ^ 19 * (if cfg.autostart then 1 else 0) := by
  obtain ⟨-, hsb, hf, -⟩ := Config.bounds_of_wf h
  simp only [param1Word, toNat_append_eq_add, BitVec.toNat_ofNat, toNat_ofBool_eq_ite, decide_eq_true_eq]
  omega

/-- CTRL as a number (20_memory.md R57). -/
theorem State.toNat_ctrlWord (s : State) :
    s.ctrlWord.toNat = (if s.acqEn then 1 else 0) + 2 * (if s.auto then 1 else 0) := by
  simp only [State.ctrlWord, toNat_append_eq_add, BitVec.toNat_ofNat, toNat_ofBool_eq_ite]
  omega

/-- Each bit of a word of flags, 0 from the number of flags on (20_memory.md R60, R61). -/
theorem getLsbD_flagsWord (f : Nat → Bool) (m : Nat) {c : Nat} (hc : c < 32) :
    (flagsWord ((List.range m).map f)).getLsbD c = (decide (c < m) && f c) := by
  rw [flagsWord, BitVec.getLsbD_setWidth, BitVec.getLsbD_ofBoolListLE]
  by_cases h : c < m
  · rw [getD_map_range f false h]
    simp [h, hc]
  · rw [List.getD_eq_default _ _ (by simpa using h)]
    simp [h]

/-! STATUS (20_memory.md R58). -/

/-- Each bit of STATUS. -/
theorem State.getLsbD_statusWord (s : State) (d : Word) (i : Nat) : (s.statusWord d).getLsbD i =
    if i = 0 then s.ready else if i = 1 then s.busy else if i = 2 then s.err else if i = 3 then s.relReq else
    if i < 8 then s.errcode.getLsbD (i - 4) else
    if i < 15 then (BitVec.ofNat 7 (s.fill d)).getLsbD (i - 8) else false := by
  rw [← BitVec.testBit_toNat]
  simp only [State.statusWord, testBit_toNat_append]
  simp only [BitVec.testBit_toNat, BitVec.getLsbD_ofBool, BitVec.getLsbD_zero]
  match i with
  | 0 | 1 | 2 | 3 => rfl
  | j + 4 =>
    have herr : j + 4 < 8 ↔ j < 4 := by omega
    have hfill : j + 4 < 15 ↔ j - 4 < 7 := by omega
    simp [herr, hfill]

/-- The bits of STATUS above its four flags. -/
theorem State.getLsbD_statusWord_of_four_le (s : State) (d : Word) {i : Nat} (h : 4 ≤ i) :
    (s.statusWord d).getLsbD i = if i < 8 then s.errcode.getLsbD (i - 4) else
      if i < 15 then (BitVec.ofNat 7 (s.fill d)).getLsbD (i - 8) else false := by
  rw [s.getLsbD_statusWord, if_neg (by omega), if_neg (by omega), if_neg (by omega), if_neg (by omega)]

theorem State.extractLsb'_statusWord_errcode (s : State) (d : Word) :
    (s.statusWord d).extractLsb' 4 4 = s.errcode := by
  ext i hi
  rw [BitVec.getElem_extractLsb', s.getLsbD_statusWord_of_four_le d (by omega), if_pos (by omega)]
  simp [hi]

theorem State.extractLsb'_statusWord_fill (s : State) (d : Word) :
    (s.statusWord d).extractLsb' 8 7 = BitVec.ofNat 7 (s.fill d) := by
  ext i hi
  rw [BitVec.getElem_extractLsb', s.getLsbD_statusWord_of_four_le d (by omega), if_neg (by omega),
    if_pos (by omega)]
  simp [hi]

theorem State.extractLsb'_statusWord_reserved (s : State) (d : Word) : (s.statusWord d).extractLsb' 15 17 = 0 := by
  ext i hi
  rw [BitVec.getElem_extractLsb', s.getLsbD_statusWord_of_four_le d (by omega), if_neg (by omega),
    if_neg (by omega)]
  simp

/-- FILL is exact while the frame is full. -/
theorem State.fill_of_full {s : State} (d : Word) (h : s.ready = true ∨ s.relReq = true) : s.fill d = s.count := by
  rw [State.fill, if_pos (by simpa using h)]

/-- FILL is a draw from 0..N while the frame fills. -/
theorem State.fill_of_filling {s : State} (d : Word) (hready : s.ready = false) (hrel : s.relReq = false) :
    s.fill d = drawUpTo d s.cfg.n := by
  rw [State.fill, if_neg (by simp [hready, hrel])]

theorem drawUpTo_le (d : Word) (n : Nat) : drawUpTo d n ≤ n := Nat.lt_succ_iff.1 (Nat.mod_lt _ n.succ_pos)

/-- Every value of 0..n can be drawn: the word of the value gives it. -/
theorem drawUpTo_zext32 {v n : Nat} (hv : v ≤ n) (hn : n < 2 ^ 32) : drawUpTo (zext32 v) n = v := by
  rw [drawUpTo, toNat_zext32 (by omega), Nat.mod_eq_of_lt (by omega)]

/-- The seven bits of FILL hold every value that FILL can have, as N is at most 64. -/
theorem State.toNat_statusWord_fill {s : State} {d : Word} (hwf : s.cfg.wf) (h : s.fill d ≤ s.cfg.n) :
    ((s.statusWord d).extractLsb' 8 7).toNat = s.fill d := by
  obtain ⟨hn, -⟩ := Config.bounds_of_wf hwf
  rw [s.extractLsb'_statusWord_fill]
  exact Nat.mod_eq_of_lt (by omega)

end Sys2Proof.Machine
end

section
/-! PROOFS. What each byte address of the window reads: the register of its word slot (20_memory.md R52, R54), and the
statements about the words there. -/

namespace Sys2Proof.Machine

/-- A read at any byte of a window's word is a read of the register at its slot. -/
theorem State.readAt_windowAddr (s : State) (d : Word) {base i low : Nat} {r : Reg}
    (hr : regAtSlot (base / 4 + i) = r) (hlow : low < 4) (hb : base % 4 = 0 := by decide)
    (hl : base + 4 * i < 4096 := by omega) : s.readAt d (windowAddr base i low) = s.readReg d r := by
  rw [State.readAt, regOf_windowAddr hlow hb hl, hr]

/-- Settles O58: each address reads its register, and each constant fits the register that shows it. -/
theorem constantRegistersReadTheConfiguration : Obligations.ConstantRegistersReadTheConfiguration := by
  intro s d low hwf hlow
  obtain ⟨-, -, -, -, hnbd⟩ := Config.bounds_of_wf hwf
  refine ⟨?_, ?_, fun c hc => ?_, fun c hc => ?_, fun j hj => ?_⟩
  · rw [s.readAt_windowAddr d (r := .param0) rfl hlow]
    exact toNat_param0Word hwf
  · rw [s.readAt_windowAddr d (r := .param1) rfl hlow]
    exact toNat_param1Word hwf
  · have hsel := selAt_le hwf c
    rw [s.readAt_windowAddr d (regAtSlot_chsel c hc) hlow, State.readReg, apply_ite BitVec.toNat,
      toNat_zext32 (by omega)]
    rfl
  · exact s.readAt_windowAddr d (regAtSlot_thresh c hc) hlow
  · rw [s.readAt_windowAddr d (regAtSlot_twid j hj) hlow, State.readReg, apply_ite BitVec.toInt,
      toInt_sext32 (twiddleAt_range hwf j)]
    rfl

/-- A result window is exact while BUSY = 0 (20_memory.md R61, R64 to R66). -/
theorem State.whileIdle_of_idle {s : State} (h : s.busy = false) (d w : Word) : s.whileIdle d w = w := by
  simp [State.whileIdle, h]

/-- A result window is a draw while BUSY = 1 (20_memory.md R61, R64 to R66). -/
theorem State.whileIdle_of_busy {s : State} (h : s.busy = true) (d w : Word) : s.whileIdle d w = d := by
  simp [State.whileIdle, h]

/-- Settles O59: each address reads its register; BUSY decides the result windows, READY the frame window. -/
theorem resultWindowsAreExactWhileIdle : Obligations.ResultWindowsAreExactWhileIdle := by
  intro s d low hwf hf hlow
  refine ⟨fun c hc => ?_, fun hbusy => ⟨fun c hc => ?_, fun c hc => ?_, fun k hk => ?_, fun b hb => ?_⟩,
    fun hbusy => ⟨?_, fun c hc => ?_, fun k hk => ?_, fun b hb => ?_⟩, fun n hn => ?_⟩
  · rw [s.readAt_windowAddr d (r := .outr) rfl hlow]
    exact getLsbD_flagsWord s.outAt _ hc
  · rw [s.readAt_windowAddr d (r := .activer) rfl hlow, State.readReg, s.whileIdle_of_idle hbusy]
    exact getLsbD_flagsWord s.activeAt _ hc
  · have hlt := (s.hcntAt c).isLt
    rw [s.readAt_windowAddr d (regAtSlot_hcnt c hc) hlow, State.readReg, s.whileIdle_of_idle hbusy,
      apply_ite BitVec.toNat, toNat_zext32 (by omega)]
    rfl
  · exact (s.readAt_windowAddr d (regAtSlot_power k hk) hlow).trans (s.whileIdle_of_idle hbusy d _)
  · exact (s.readAt_windowAddr d (regAtSlot_bucket b hb) hlow).trans (s.whileIdle_of_idle hbusy d _)
  · exact (s.readAt_windowAddr d (r := .activer) rfl hlow).trans (s.whileIdle_of_busy hbusy d _)
  · exact (s.readAt_windowAddr d (regAtSlot_hcnt c hc) hlow).trans (s.whileIdle_of_busy hbusy d _)
  · exact (s.readAt_windowAddr d (regAtSlot_power k hk) hlow).trans (s.whileIdle_of_busy hbusy d _)
  · exact (s.readAt_windowAddr d (regAtSlot_bucket b hb) hlow).trans (s.whileIdle_of_busy hbusy d _)
  · rw [s.readAt_windowAddr d (regAtSlot_framew n hn) hlow, State.readReg]
    refine ⟨fun hge => if_pos hge, fun hlt hready => ?_, fun hlt hready => ?_⟩
    · rw [if_neg (by omega), if_pos hready, toInt_sext32 (s.sampleAt_range_of_wf hwf hf n)]
    · rw [if_neg (by omega), if_neg (by simp [hready])]

/-- Settles O60: STATUS by its bits and fields, with FILL's two cases; CTRL as a number; CMD and the reserved slots
read 0. -/
theorem statusAndControlReadTheirFields : Obligations.StatusAndControlReadTheirFields := by
  intro s d low hwf hhandoff hlow
  obtain ⟨hn, -⟩ := Config.bounds_of_wf hwf
  obtain ⟨hcount, -⟩ := hhandoff
  have hstatus (d : Word) : s.readAt d (windowAddr 0x00C 0 low) = s.statusWord d :=
    s.readAt_windowAddr d (r := .status) rfl hlow
  simp only [hstatus]
  refine ⟨⟨s.getLsbD_statusWord d 0, s.getLsbD_statusWord d 1, s.getLsbD_statusWord d 2, s.getLsbD_statusWord d 3,
      s.extractLsb'_statusWord_errcode d, s.extractLsb'_statusWord_reserved d⟩,
    fun hfull => ?_, fun hready hrel => ?_, ?_, ?_, fun i h7 h16 => ?_, fun i hi hi' => ?_⟩
  · have hfill := s.fill_of_full d hfull
    rw [State.toNat_statusWord_fill hwf (by omega), hfill]
  · have hfill (d' : Word) : ((s.statusWord d').extractLsb' 8 7).toNat = drawUpTo d' s.cfg.n := by
      have h := s.fill_of_filling d' hready hrel
      rw [State.toNat_statusWord_fill hwf (h ▸ drawUpTo_le d' s.cfg.n), h]
    exact ⟨hfill d ▸ drawUpTo_le d s.cfg.n, fun v hv =>
      ⟨zext32 v, by rw [hfill, drawUpTo_zext32 hv (by omega)]⟩⟩
  · rw [s.readAt_windowAddr d (r := .ctrl) rfl hlow]
    exact s.toNat_ctrlWord
  · exact s.readAt_windowAddr d (r := .cmd) rfl hlow
  · have hslot : regAtSlot (0 / 4 + i) = .reserved := by simpa using regAtSlot_reserved_low i h16 h7
    exact s.readAt_windowAddr d hslot hlow
  · have hslot : regAtSlot (0 / 4 + i) = .reserved := by simpa using regAtSlot_reserved_high hi
    exact s.readAt_windowAddr d hslot hlow

end Sys2Proof.Machine
end

section
/-! PROOFS. The command word: the decoder as the inverse of the encoder on the operands in range, and the legality
predicate as the decoder's domain (30_encoding.md R82 to R90). -/

namespace Sys2Proof.Machine

/-- A word with Z = 0 is made of its other three fields (30_encoding.md R82). -/
theorem commandWord_of_fields {w : Word} (hz : fieldZ w = 0) :
    commandWord (fieldOp w) (fieldCh w) (fieldImm w) = w := by
  apply BitVec.eq_of_getLsbD_eq
  intro i hi
  rw [getLsbD_commandWord]
  split_ifs with h8 h12 h16
  · simp [fieldImm, h8]
  · have hpos : 8 + (i - 8) = i := by omega
    have hlt : i - 8 < 4 := by omega
    simp [fieldCh, hpos, hlt]
  · have hpos : 12 + (i - 12) = i := by omega
    have hlt : i - 12 < 4 := by omega
    simp [fieldOp, hpos, hlt]
  · have hpos : 16 + (i - 16) = i := by omega
    have hlt : i - 16 < 16 := by omega
    simpa [fieldZ, hpos, hlt] using (congrArg (·.getLsbD (i - 16)) hz).symm

/-- A command without operands is decoded only where CH and IMM are 0 (30_encoding.md R84). -/
theorem unused_fields_of_decodePlain {w : Word} {i j : Instr} (h : decodePlain w j = .ok i) :
    fieldCh w = 0 ∧ fieldImm w = 0 := by
  unfold decodePlain at h
  split at h
  · assumption
  · cases h

/-- Each row of the opcode map reads back the operands that the encoder put in (30_encoding.md R82 to R84). -/
theorem decode_encode {cfg : Config} {i : Instr} (h : i.wf cfg = true) : decode cfg (encode i) = .ok i := by
  cases i with
  | dftb k => simpa [encode, decode, Instr.op, Instr.wf] using h
  | seta c v => simpa [encode, decode, Instr.op, Instr.wf] using h
  | _ => simp [encode, decode, decodePlain, Instr.op]

/-- A word that decodes has Z = 0 and the other fields of its command's encoding, with the operands in range
(30_encoding.md R83, R84). -/
theorem encode_eq_fields_of_decode {cfg : Config} {w : Word} {i : Instr} (h : decode cfg w = .ok i) :
    fieldZ w = 0 ∧ encode i = commandWord (fieldOp w) (fieldCh w) (fieldImm w) ∧ i.wf cfg = true := by
  rw [← op_eq_fieldOp_of_decode h]
  unfold decode at h
  split at h
  · cases h
  next hz =>
  refine ⟨not_not.1 hz, ?_⟩
  split at h
  case h_4 =>
    split_ifs at h with hch hk
    cases h
    exact ⟨by rw [not_not.1 hch]; rfl, decide_eq_true hk⟩
  case h_10 =>
    split_ifs at h with hcv
    cases h
    exact ⟨rfl, decide_eq_true hcv⟩
  case h_11 => cases h
  all_goals
    obtain ⟨hch, himm⟩ := unused_fields_of_decodePlain h
    obtain rfl := eq_of_decodePlain h
    exact ⟨by rw [hch, himm]; rfl, rfl⟩

/-- The decoder inverts the encoder on the operands in range, and decodes nothing else (30_encoding.md R83, R84). -/
theorem decode_eq_ok_iff {cfg : Config} {w : Word} {i : Instr} :
    decode cfg w = .ok i ↔ encode i = w ∧ i.wf cfg = true := by
  refine ⟨fun h => ?_, fun ⟨hw, hwf⟩ => hw ▸ decode_encode hwf⟩
  obtain ⟨hz, hencode, hwf⟩ := encode_eq_fields_of_decode h
  exact ⟨hencode.trans (commandWord_of_fields hz), hwf⟩

/-- Settles O1, by the row of the opcode map that each command has. -/
theorem decodeOfEncodeIsTheCommand : Obligations.DecodeOfEncodeIsTheCommand := fun _ _ => decode_encode

/-- Settles O2: the fields of a word that decodes are those of the command's encoding, and they make up the word. -/
theorem encodeOfDecodeIsTheWord : Obligations.EncodeOfDecodeIsTheWord := fun _ _ _ => decode_eq_ok_iff.1

/-- Settles O5: the assembler's test is the range of the operands, and its word is the encoding. -/
theorem assemblerGivesExactlyTheLegalWords : Obligations.AssemblerGivesExactlyTheLegalWords := by
  intro cfg i w
  rw [decode_eq_ok_iff, assemble]
  split
  · next h => simp only [h, Option.some.injEq, and_true]
  · next h => simp only [h, reduceCtorEq, and_false]

/-! Legal and illegal words (30_encoding.md R85 to R88). -/

theorem isOk_ite_ok_error {ε α : Type} (p : Prop) [Decidable p] (x : α) (e : ε) :
    (if p then .ok x else .error e : Except ε α).isOk = decide p := by
  split
  · next h => exact (decide_eq_true h).symm
  · next h => exact (decide_eq_false h).symm

/-- A word with a bit set in [31:16] is illegal (30_encoding.md R86). -/
theorem legal_of_fieldZ_ne_zero {cfg : Config} {w : Word} (hz : fieldZ w ≠ 0) : legal cfg w = false := by
  rw [legal, decide_eq_false hz, Bool.false_and]

/-- The legality predicate is the domain of the decoder: they test the same fields for each OP (30_encoding.md R88). -/
theorem legal_eq_isOk_decode (cfg : Config) (w : Word) : legal cfg w = (decode cfg w).isOk := by
  by_cases hz : fieldZ w = 0
  · unfold legal decode
    rw [decide_eq_true hz, Bool.true_and, if_neg (not_not.2 hz)]
    split
    case h_9 hop =>
      simp only [hop, ne_eq, ite_not]
      by_cases hch : fieldCh w = 0
      · simp only [hch, if_true, isOk_ite_ok_error, true_and]
      · simp only [hch, if_false, false_and]
        rfl
    case h_10 hop => simp only [hop, isOk_ite_ok_error]
    case h_11 =>
      simp only [*]
      rfl
    all_goals
      rename_i hop
      simp only [hop, decodePlain, isOk_ite_ok_error]
  · rw [legal_of_fieldZ_ne_zero hz, decode, if_pos hz]
    rfl

/-- Settles O3: the legality predicate is the decoder's domain, a word that decodes has its command's OP, and of the
configuration both read N and NUM_CH only. -/
theorem decodingIsTotal : Obligations.DecodingIsTotal := by
  refine ⟨fun cfg w => ?_, fun cfg cfg' w hn hnumCh => ?_⟩
  · rw [legal_eq_isOk_decode]
    cases h : decode cfg w with
    | ok i => exact ⟨fun _ => ⟨i, rfl, op_eq_fieldOp_of_decode h⟩, nofun⟩
    | error e => exact ⟨nofun, fun _ => ⟨e, rfl⟩⟩
  · simp only [decode, legal, hn, hnumCh, and_self]

/-- Settles O4: with Z = 0, each OP below 0xA leaves one test of CH and IMM, whose negation is the case listed for it.
The word of NOP is its encoding. -/
theorem illegalWordsAreTheListedCases : Obligations.IllegalWordsAreTheListedCases := by
  refine fun cfg w => ⟨?_, ?_⟩
  · by_cases hz : fieldZ w = 0
    · rw [legal, decide_eq_true hz, Bool.true_and]
      split
      case h_11 =>
        have hreserved : 0xA ≤ (fieldOp w).toNat := by grind
        exact iff_of_true rfl (.inr (.inl hreserved))
      all_goals
        rename_i hop
        simp [hop, hz, imp_iff_not_or]
    · exact iff_of_true (legal_of_fieldZ_ne_zero hz) (.inl hz)
  · rw [decode_eq_ok_iff]
    exact ⟨fun ⟨hw, _⟩ => hw.symm, fun hw => ⟨hw.symm, rfl⟩⟩

/-- Settles O6: the field is one of four values, and a word that decodes has its command's OP there. -/
theorem readyIsNeededByFourCommands : Obligations.ReadyIsNeededByFourCommands := by
  have hfour : ∀ op : BitVec 4, needsReady op = true ↔ op = 0x1 ∨ op = 0x2 ∨ op = 0x3 ∨ op = 0x7 := by decide
  refine ⟨hfour, fun cfg w i h => ?_⟩
  rw [hfour, ← op_eq_fieldOp_of_decode h]
  cases i <;> simp [Instr.op]

/-- Settles O7: the decoder runs on each of the ten words. -/
theorem wordsOfTheSpecDecodeAsWritten : Obligations.WordsOfTheSpecDecodeAsWritten := by
  unfold Obligations.WordsOfTheSpecDecodeAsWritten
  decide

/-! Sample values on the port (30_encoding.md R81; 40_acquisition.md R100). -/

/-- The low bits of an integer's two's complement are its two's complement in the smaller width. -/
theorem setWidth_ofInt {m n : Nat} (h : n ≤ m) (v : Int) : (BitVec.ofInt m v).setWidth n = BitVec.ofInt n v := by
  apply BitVec.eq_of_toInt_eq
  rw [← BitVec.signExtend_eq_setWidth_of_le _ h, BitVec.toInt_signExtend_eq_toInt_bmod_of_le _ h, BitVec.toInt_ofInt,
    BitVec.toInt_ofInt, Int.bmod_bmod_of_dvd (pow_dvd_pow 2 h)]

/-- Settles O24: the low SB bits of the event are the sample in two's complement, and SB bits hold SMIN..SMAX. -/
theorem everySampleValueCanBeDelivered : Obligations.EverySampleValueCanBeDelivered := by
  intro cfg v hwf hlo hhi
  obtain ⟨⟨-, hsb, hsb16, -⟩, -⟩ := hwf
  rw [adcValue, setWidth_ofInt hsb16]
  exact BitVec.toInt_ofInt_eq_self (by omega) hlo (Int.lt_of_le_sub_one hhi)

end Sys2Proof.Machine
end

section
/-! PROOFS. The steps of acquisition and the handoff, one rule per step: SAMPLE, the two synchronizer steps, REL, and an
internal step that is not enabled; and where adc_start goes out (40_acquisition.md R100 to R105). -/

namespace Sys2Proof.Machine

/-- A step of a well-formed machine whose next event is known performs that event. -/
theorem step_of_nextEvent {s : State} {e : Event} (hwf : s.cfg.wf) (he : s.nextEvent = e) :
    step s = perform e s.advance := by
  rw [step_eq_perform hwf, he]

/-- `emitStartIf` in a state whose trace is empty, as one record update, with the condition as a proposition. -/
theorem State.emitStartIf_eq {s : State} (h : s.emits = []) {b : Bool} {p : Prop} [Decidable p] (hb : b = true ↔ p) :
    s.emitStartIf b = { s with emits := if p then [.adcStart] else [] } := by
  by_cases hp : p
  · simp [State.emitStartIf, State.emit, h, hb, hp]
  · simp [State.emitStartIf, ← h, hb, hp]

/-- Settles O31: `release` is that record update. -/
theorem relHandsTheFrameBack : Obligations.RelHandsTheFrameBack := fun _ => rfl

/-- A SAMPLE while ACQ_EN = 1 and count < N, as one record update (40_acquisition.md R100). -/
theorem step_sample_stores {s : State} {data : BitVec 16} (hwf : s.cfg.wf) (he : s.nextEvent = .sample data)
    (ha : s.acqEn = true) (hc : s.count < s.cfg.n) :
    step s = .next { s with
      frame := s.frame.write s.count (adcValue s.cfg data), count := s.count + 1, agenda := s.agenda.tail
      tick := s.tick + 1, emits := if s.count + 1 < s.cfg.n then [.adcStart] else [] } := by
  have hstore : sampleEvent data s.advance = _ := if_pos ⟨ha, hc⟩
  rw [step_of_nextEvent hwf he, perform, hstore, State.emitStartIf_eq rfl decide_eq_true_iff]
  rfl

/-- Settles O23: a SAMPLE is stored or dropped by its one guard; a write to slot `count` reads back there and leaves
every other slot as it was. -/
theorem sampleStoresOrIsDropped : Obligations.SampleStoresOrIsDropped := by
  intro s data hwf he
  refine ⟨fun ha hc => ⟨_, step_sample_stores hwf he ha hc, rfl, Memory.read_write_same _ _ _, ?_, ?_, ?_⟩,
    fun hdrop => ?_⟩
  · exact (adcValue_range s.cfg data).1
  · exact (adcValue_range s.cfg data).2
  · exact fun n hn => Memory.read_write_ne _ _ hn
  · have hguard : ¬(s.acqEn = true ∧ s.count < s.cfg.n) := by
      rintro ⟨ha, hc⟩
      rcases hdrop with h | h
      · rw [h] at ha; cases ha
      · omega
    rw [step_of_nextEvent hwf he]
    exact congrArg _ (if_neg hguard)

/-- When SYNC_A2C is enabled: the frame is full and nobody has it (40_acquisition.md R103). -/
theorem State.a2cEnabled_iff {s : State} :
    s.a2cEnabled = true ↔ s.count = s.cfg.n ∧ s.relReq = false ∧ s.ready = false := by
  simp [State.a2cEnabled, and_assoc]

/-- Settles O25: each synchronizer step is enabled by just these premises. -/
theorem synchronizerStepsMoveTheHandoff : Obligations.SynchronizerStepsMoveTheHandoff := by
  intro s hwf
  refine ⟨fun he hc hq hr => ?_, fun he hq => ?_⟩
  · rw [step_of_nextEvent hwf he]
    exact congrArg _ (if_pos (State.a2cEnabled_iff.2 ⟨hc, hq, hr⟩))
  · have hon : syncC2A s.advance = _ := if_pos hq
    rw [step_of_nextEvent hwf he, perform, hon, State.emitStartIf_eq rfl Iff.rfl]
    rfl

/-- Settles O20, internal step by internal step: each is guarded by the condition that enables it. -/
theorem disabledInternalStepChangesNothing : Obligations.DisabledInternalStepChangesNothing := by
  intro s hwf hint hoff
  rw [step_eq_perform hwf]
  rcases hint with he | he | he | he <;> rw [he] at hoff ⊢
  · exact congrArg _ (if_neg (ne_true_of_eq_false hoff))
  · exact congrArg _ (if_neg (ne_true_of_eq_false hoff))
  · exact if_neg (ne_true_of_eq_false hoff)
  · exact congrArg _ (if_neg (ne_true_of_eq_false hoff))

/-! Where adc_start goes out: what each operation adds to a trace that is empty, as it is at the start of a step. -/

/-- Of the bus writes, only one that raises ACQ_EN while a frame is filling emits adc_start (20_memory.md R57). -/
theorem adcStart_mem_busWrite {s : State} (h : s.emits = []) (addr : Addr) (d : Word) :
    .adcStart ∈ (busWrite addr d s).emits ↔
      (regOf addr = .ctrl ∧ d.getLsbD 0 = true) ∧ s.acqEn = false ∧ s.count < s.cfg.n ∧ s.relReq = false := by
  rcases busWrite_cases addr d s with ⟨hg, hw⟩ | ⟨hg, hw⟩ | ⟨hg, hw⟩ | ⟨⟨hg, -⟩, hw⟩
  · simp [hw, hg, writeCtrl_eq d h, and_left_comm]
  · simp [hw, hg, writeStatus_eq, h]
  · rcases issue_cases d s with ⟨_, hi⟩ | ⟨_, _, hi⟩ | ⟨_, _, _, _, hi⟩ | ⟨_, _, _, hi⟩ <;> simp [hw, hg, hi, h]
  · simp [hw, hg, h]

/-- A SAMPLE emits adc_start when it is stored and leaves count < N (40_acquisition.md R100). -/
theorem adcStart_mem_sampleEvent {s : State} (h : s.emits = []) (data : BitVec 16) :
    .adcStart ∈ (sampleEvent data s).emits ↔ s.acqEn = true ∧ s.count + 1 < s.cfg.n := by
  rcases sampleEvent_cases data s with ⟨⟨ha, _⟩, hs⟩ | ⟨hd, hs⟩
  · simp [hs, h, ha]
  · have hoff : ¬(s.acqEn = true ∧ s.count + 1 < s.cfg.n) := fun hn => hd ⟨hn.1, by omega⟩
    simpa [hs, h] using hoff

/-- SYNC_C2A emits adc_start when it is enabled and ACQ_EN = 1 (40_acquisition.md R104). -/
theorem adcStart_mem_syncC2A {s : State} (h : s.emits = []) :
    .adcStart ∈ (syncC2A s).emits ↔ s.relReq = true ∧ s.acqEn = true := by
  rcases syncC2A_cases s with ⟨hq, hs⟩ | ⟨hq, hs⟩ <;> simp [hs, hq, h]

/-- A command emits nothing. -/
theorem exec_next_emits {i : Instr} {s t : State} (h : exec i s = .next t) : t.emits = s.emits := by
  rcases exec_next_cases h with ⟨_, rfl⟩ | ⟨_, rfl⟩ | ⟨_, rfl⟩ | ⟨_, _, _, rfl⟩ | ⟨_, rfl⟩ | ⟨_, rfl⟩ | ⟨_, rfl⟩ |
    ⟨_, rfl⟩ | ⟨_, rfl⟩ | ⟨_, _, _, _, rfl⟩ <;> rfl

/-- The engine emits nothing. -/
theorem engineExec_next_emits {s t : State} (h : engineExec s = .next t) : t.emits = s.emits := by
  rcases engineExec_next_cases h with ⟨_, rfl⟩ | ⟨_, i, u, _, hu, rfl⟩
  · rfl
  · exact u.setIdle_emits.trans (exec_next_emits hu)

/-- Settles O26, event by event: what the event's operation adds to the empty trace of the step. -/
theorem adcStartGoesOutExactlyWhereStated : Obligations.AdcStartGoesOutExactlyWhereStated := by
  intro s t h
  have hempty := s.advance_emits
  rcases perform_next_cases (step_next_iff.1 h).2 with ⟨addr, he, rfl⟩ | ⟨addr, d, he, rfl⟩ | ⟨data, he, rfl⟩ |
    ⟨he, rfl⟩ | ⟨he, rfl⟩ | ⟨he, hx⟩ | ⟨he, rfl⟩ | ⟨he, rfl⟩
  · simp [he, busRead]
  · rw [adcStart_mem_busWrite hempty]
    simp [he, State.writes]
  · rw [adcStart_mem_sampleEvent hempty]
    simp [he]
  · rcases syncA2C_cases s.advance with ⟨_, hs⟩ | ⟨_, hs⟩ <;> simp [he, hs]
  · rw [adcStart_mem_syncC2A hempty]
    simp [he]
  · simp [he, engineExec_next_emits hx]
  · rcases autoIssue_cases s.advance with ⟨_, hs⟩ | ⟨_, hs⟩ <;> simp [he, hs]
  · cases hauto : s.cfg.autostart <;> simp [he, State.writes, resetEvent, State.resetOf, hauto]

end Sys2Proof.Machine
end

section
/-! PROOFS. The pending command and the handoff along a run: what holds until an event comes, what weak fairness and the
ADC's duty make come (00_scope.md R14; 40_acquisition.md R109; 44_control.md R181, R189). -/

namespace Sys2Proof.Machine

/-! Progress: a property that every step keeps until an event. -/

/-- A property that is kept until an event holds when the event comes, or for ever. -/
theorem meets_or_holds_forever {P E : Nat → Prop} {k : Nat} (hk : P k)
    (hkeep : ∀ j, k ≤ j → P j → ¬E j → P (j + 1)) : (∃ j, k ≤ j ∧ P j ∧ E j) ∨ ∀ j, k ≤ j → P j := by
  refine or_iff_not_imp_left.2 fun hnever j hj => ?_
  induction j, hj using Nat.le_induction with
  | base => exact hk
  | succ j hj ih => exact hkeep j hj ih fun hE => hnever ⟨j, hj, ih, hE⟩

/-- A property that is kept until an event still holds when the event comes, if it does come. -/
theorem meets_of_comes {P E : Nat → Prop} {k : Nat} (hk : P k) (hkeep : ∀ j, k ≤ j → P j → ¬E j → P (j + 1))
    (hcomes : ∃ j, k ≤ j ∧ E j) : ∃ j, k ≤ j ∧ P j ∧ E j := by
  obtain ⟨j, hj, hE⟩ := hcomes
  exact (meets_or_holds_forever hk hkeep).elim id fun hP => ⟨j, hj, hP j hj, hE⟩

/-- The rule of weak fairness: an internal step that a property enables, and that alone can end it, is taken while the
property holds (00_scope.md R14). -/
theorem WeaklyFair.takes {σ : Nat → Event} {ρ : Nat → State} (hfair : WeaklyFair σ ρ) {e : Event} {P : Nat → Prop}
    {k : Nat} (hk : P k) (hon : ∀ j, P j → (ρ j).internalEnabled e = true)
    (hkeep : ∀ j, k ≤ j → P j → σ j ≠ e → P (j + 1)) : ∃ j, k ≤ j ∧ P j ∧ σ j = e :=
  (meets_or_holds_forever hk hkeep).elim id fun hP =>
    meets_of_comes hk hkeep (hfair e k fun j hj => hon j (hP j hj))

/-! The pending command (44_control.md R181). -/

/-- While a command is pending, only EXEC and reset take it or its READY away (44_control.md R181; 40_acquisition.md
R107): an issue needs BUSY = 0, and READY falls only with a command that runs. -/
theorem step_keeps_pending {s t : State} (hb : s.busy = true) (hexec : s.nextEvent ≠ .exec)
    (hreset : s.nextEvent ≠ .reset) (h : step s = .next t) :
    t.busy = true ∧ t.pcmd = s.pcmd ∧ (s.ready = true → t.ready = true) := by
  have hwf := (step_next_iff.1 h).1
  have hcommand : t.busy = true ∧ t.pcmd = s.pcmd := by
    cases (step_changes h hreset).command with
    | same hb' hp => exact ⟨hb'.trans hb, hp⟩
    | finished he => exact absurd he hexec
    | issued he =>
      rcases he with hw | he
      · have hissue := h.symm.trans (step_of_writes hwf hw)
        have ht : t = s.advance.raiseError errBusy := (Host.Outcome.next.inj hissue).trans (if_pos hb)
        simp [ht, hb]
      · have hoff : s.internalEnabled s.nextEvent = false := by simp [he, State.internalEnabled, State.autoEnabled, hb]
        have hstay := disabledInternalStepChangesNothing s hwf (.inr (.inr (.inr he))) hoff
        have ht : t = s.advance := Host.Outcome.next.inj (h.symm.trans hstay)
        simp [ht, hb]
  exact ⟨hcommand.1, hcommand.2, (step_changes h hreset).handoff.ready_of_busy hcommand.1⟩

/-- The command pending at state `k` of a run is pending at state `j`, and with READY = 1 if it had that. -/
def PendingSince (ρ : Nat → State) (k j : Nat) : Prop :=
  (ρ j).busy = true ∧ (ρ j).pcmd = (ρ k).pcmd ∧ ((ρ k).ready = true → (ρ j).ready = true)

/-- Settles O18: no step but EXEC and reset ends a pending command, which enables EXEC all the while. -/
theorem pendingCommandHoldsUntilExec : Obligations.PendingCommandHoldsUntilExec := by
  refine ⟨fun s t => step_keeps_pending, fun σ ρ k hrun hfair hbusy hnoreset => ?_⟩
  have hkeep (j : Nat) (hj : k ≤ j) (hP : PendingSince ρ k j) (he : σ j ≠ .exec) : PendingSince ρ k (j + 1) := by
    obtain ⟨hb, hp, hr⟩ := hP
    obtain ⟨hb', hp', hr'⟩ := step_keeps_pending (s := (ρ j).withAgenda [σ j]) hb he (hnoreset j hj) (hrun j)
    exact ⟨hb', hp'.trans hp, fun h => hr' (hr h)⟩
  obtain ⟨j, hj, ⟨hb, hp, hr⟩, he⟩ := hfair.takes ⟨hbusy, rfl, id⟩ (fun j hP => hP.1) hkeep
  exact ⟨j, hj, he, hb, hp, hr⟩

/-! A run of good states. -/

section
variable {σ : Nat → Event} {ρ : Nat → State} {k : Nat}

/-- The handoff invariants hold all along a run from a state that meets them (10_state.md R37). -/
theorem IsRun.handoff_pendingOk (hrun : IsRun σ ρ) {j : Nat} (hj : k ≤ j) (hk : (ρ k).handoff ∧ (ρ k).pendingOk) :
    (ρ j).handoff ∧ (ρ j).pendingOk := by
  induction j, hj using Nat.le_induction with
  | base => exact hk
  | succ j _ ih => exact handoffInvariantsHold.2 ((ρ j).withAgenda [σ j]) _ ih.1 ih.2 (hrun j)

/-- The configuration stays the same all along a run (10_state.md R35, R36). -/
theorem IsRun.cfg_eq (hrun : IsRun σ ρ) (j : Nat) : (ρ j).cfg = (ρ 0).cfg := by
  induction j with
  | zero => rfl
  | succ j ih => exact (noStepWritesTheConfiguration ((ρ j).withAgenda [σ j]) _ (hrun j)).trans ih

/-- Every state of a run has a well-formed configuration, or it would have no next state. -/
theorem IsRun.wf (hrun : IsRun σ ρ) (j : Nat) : (ρ j).cfg.wf := (step_next_iff.1 (hrun j)).1

/-- A storing SAMPLE in a run: count advances, the handoff flags stay, and adc_start goes out unless the frame became
full (40_acquisition.md R100). -/
theorem IsRun.sample_stores (hrun : IsRun σ ρ) {j : Nat} {data : BitVec 16} (he : σ j = .sample data)
    (ha : (ρ j).acqEn = true) (hc : (ρ j).count < (ρ j).cfg.n) :
    (ρ (j + 1)).count = (ρ j).count + 1 ∧ (ρ (j + 1)).ready = (ρ j).ready ∧ (ρ (j + 1)).relReq = (ρ j).relReq ∧
    ((ρ j).count + 1 < (ρ j).cfg.n → .adcStart ∈ (ρ (j + 1)).emits) := by
  have hstore := step_sample_stores (s := (ρ j).withAgenda [σ j]) (hrun.wf j) he ha hc
  rw [Host.Outcome.next.inj ((hrun j).symm.trans hstore)]
  exact ⟨rfl, rfl, rfl, fun h => by simp [h]⟩

/-! The release arrives (40_acquisition.md R104, R109). -/

/-- Only SYNC_C2A and reset take REL_REQ away. -/
theorem step_keeps_relReq {s t : State} (hq : s.relReq = true) (he : s.nextEvent ≠ .syncC2A)
    (hreset : s.nextEvent ≠ .reset) (h : step s = .next t) : t.relReq = true := by
  cases (step_changes h hreset).handoff with
  | same _ _ _ hq' => exact hq'.trans hq
  | stored _ _ _ _ _ _ hq' => exact hq'.trans hq
  | raised _ _ _ _ _ _ hq' => exact hq'.trans hq
  | restarted he' => exact absurd he' he
  | released _ _ _ _ _ _ hq' => exact hq'

/-- In a weakly fair run without reset a release arrives: SYNC_C2A comes and count becomes 0. -/
theorem IsRun.release_arrives (hrun : IsRun σ ρ) (hfair : WeaklyFair σ ρ)
    (hnoreset : ∀ j, k ≤ j → σ j ≠ .reset) (hq : (ρ k).relReq = true) : ∃ j, k ≤ j ∧ (ρ j).count = 0 := by
  have hkeep (j : Nat) (hj : k ≤ j) (hq : (ρ j).relReq = true) (he : σ j ≠ .syncC2A) : (ρ (j + 1)).relReq = true :=
    step_keeps_relReq (s := (ρ j).withAgenda [σ j]) hq he (hnoreset j hj) (hrun j)
  obtain ⟨j, hj, hq, he⟩ := hfair.takes (e := .syncC2A) (P := fun j => (ρ j).relReq = true) hq (fun j hP => hP) hkeep
  have hstep := (synchronizerStepsMoveTheHandoff ((ρ j).withAgenda [σ j]) (hrun.wf j)).2 he hq
  refine ⟨j + 1, by omega, ?_⟩
  rw [Host.Outcome.next.inj ((hrun j).symm.trans hstep)]

/-! A full frame becomes ready (40_acquisition.md R103, R109). -/

/-- Only SYNC_A2C and reset end the wait for SYNC_A2C: a full frame takes no sample, and REL and FRAME find no READY
(40_acquisition.md R103). -/
theorem step_keeps_a2cEnabled {s t : State} (hs : s.a2cEnabled = true) (hp : s.pendingOk) (he : s.nextEvent ≠ .syncA2C)
    (hreset : s.nextEvent ≠ .reset) (h : step s = .next t) : t.a2cEnabled = true := by
  have hcfg := noStepWritesTheConfiguration s t h
  obtain ⟨hc, hq, hr⟩ := State.a2cEnabled_iff.1 hs
  cases (step_changes h hreset).handoff with
  | same _ hc' hr' hq' => exact State.a2cEnabled_iff.2 ⟨by rw [hc', hc, hcfg], hq'.trans hq, hr'.trans hr⟩
  | stored _ _ hlt => exact absurd hc (Nat.ne_of_lt hlt)
  | raised he' => exact absurd he' he
  | restarted _ hq' => rw [hq] at hq'; cases hq'
  | released hx hi => rw [s.ready_of_pending_release hp hx hi] at hr; cases hr

/-- In a weakly fair run of good states without reset a full frame becomes ready. -/
theorem IsRun.full_frame_becomes_ready (hrun : IsRun σ ρ) (hfair : WeaklyFair σ ρ)
    (hnoreset : ∀ j, k ≤ j → σ j ≠ .reset) (hgood : ∀ j, k ≤ j → (ρ j).handoff ∧ (ρ j).pendingOk)
    (hwait : (ρ k).a2cEnabled = true) :
    ∃ j, k ≤ j ∧ (ρ j).ready = true := by
  have hkeep (j : Nat) (hj : k ≤ j) (hw : (ρ j).a2cEnabled = true) (he : σ j ≠ .syncA2C) :
      (ρ (j + 1)).a2cEnabled = true :=
    step_keeps_a2cEnabled (s := (ρ j).withAgenda [σ j]) hw (hgood j hj).2 he (hnoreset j hj) (hrun j)
  obtain ⟨j, hj, hw, he⟩ :=
    hfair.takes (e := .syncA2C) (P := fun j => (ρ j).a2cEnabled = true) hwait (fun j hw => hw) hkeep
  obtain ⟨hc, hq, hr⟩ := State.a2cEnabled_iff.1 hw
  have hstep := (synchronizerStepsMoveTheHandoff ((ρ j).withAgenda [σ j]) (hrun.wf j)).1 he hc hq hr
  refine ⟨j + 1, by omega, ?_⟩
  rw [Host.Outcome.next.inj ((hrun j).symm.trans hstep)]

/-! A frame fills (40_acquisition.md R100, R109; 44_control.md R189). -/

/-- An adc_start that goes out now is unanswered. -/
theorem adcOwes_of_mem_emits (h : .adcStart ∈ (ρ k).emits) : AdcOwes σ ρ k :=
  ⟨k, le_rfl, h, fun _ _ h1 h2 => absurd h2 (Nat.not_lt.2 h1)⟩

/-- An ADC that keeps its duty delivers the sample it owes. -/
theorem AdcDuty.sample_comes (hduty : AdcDuty σ ρ) (howes : AdcOwes σ ρ k) :
    ∃ j, k ≤ j ∧ ∃ data, σ j = .sample data := by
  obtain ⟨i, -, hstart, hnone⟩ := howes
  obtain ⟨j, data, hij, hj⟩ := hduty i hstart
  exact ⟨j, Nat.le_of_not_lt fun hlt => hnone j data hij hlt hj, data, hj⟩

/-- While no release is waiting, only SAMPLE and reset move count. -/
theorem step_keeps_count {s t : State} (hq : s.relReq = false) (he : ∀ data, s.nextEvent ≠ .sample data)
    (hreset : s.nextEvent ≠ .reset) (h : step s = .next t) : t.count = s.count := by
  cases (step_changes h hreset).handoff with
  | same _ hc => exact hc
  | raised _ _ _ _ hc => exact hc
  | released _ _ _ _ hc => exact hc
  | stored he' => exact absurd he' (he _)
  | restarted _ hq' => rw [hq] at hq'; cases hq'

section
variable (hrun : IsRun σ ρ) (hduty : AdcDuty σ ρ)
  (hgood : ∀ j, k ≤ j → (ρ j).handoff ∧ (ρ j).pendingOk) (hacq : ∀ j, k ≤ j → (ρ j).acqEn = true ∧ σ j ≠ .reset)
include hrun hduty hgood hacq

/-- The sample that a filling frame is owed comes while count is what it was. -/
theorem IsRun.owed_sample_comes (hc : (ρ k).count < (ρ k).cfg.n) (howes : AdcOwes σ ρ k) :
    ∃ j, k ≤ j ∧ (ρ j).count = (ρ k).count ∧ ∃ data, σ j = .sample data := by
  refine meets_of_comes (P := fun j => (ρ j).count = (ρ k).count) rfl (fun j hj hcount hnone => ?_)
    (hduty.sample_comes howes)
  have hn : (ρ j).cfg = (ρ k).cfg := (hrun.cfg_eq j).trans (hrun.cfg_eq k).symm
  obtain ⟨⟨-, -, -, hfill⟩, -⟩ := hgood j hj
  have hq : (ρ j).relReq = false := (hfill (by rw [hcount, hn]; exact hc)).2
  have hstay : (ρ (j + 1)).count = (ρ j).count :=
    step_keeps_count (s := (ρ j).withAgenda [σ j]) hq (fun data he => hnone ⟨data, he⟩) (hacq j hj).2 (hrun j)
  exact hstay.trans hcount

/-- Sample by sample, each storing one owing the next, a filling frame becomes full, and SYNC_A2C enabled. -/
theorem IsRun.frame_becomes_full (hc : (ρ k).count < (ρ k).cfg.n) (howes : AdcOwes σ ρ k) :
    ∃ j, k ≤ j ∧ (ρ j).a2cEnabled = true := by
  induction hm : (ρ k).cfg.n - (ρ k).count generalizing k with
  | zero => omega
  | succ m ih =>
    obtain ⟨j, hj, hcount, data, he⟩ := hrun.owed_sample_comes hduty hgood hacq hc howes
    have hn (i : Nat) : (ρ i).cfg = (ρ k).cfg := (hrun.cfg_eq i).trans (hrun.cfg_eq k).symm
    have hcj : (ρ j).count < (ρ j).cfg.n := by rw [hcount, hn j]; exact hc
    obtain ⟨⟨-, -, -, hfill⟩, -⟩ := hgood j hj
    obtain ⟨hr, hq⟩ := hfill hcj
    obtain ⟨hcount', hr', hq', hemit⟩ := hrun.sample_stores he (hacq j hj).1 hcj
    rw [hcount] at hcount'
    by_cases hfull : (ρ k).count + 1 < (ρ k).cfg.n
    · have howes' : AdcOwes σ ρ (j + 1) := adcOwes_of_mem_emits (hemit (by rw [hcount, hn j]; exact hfull))
      obtain ⟨i, hi, hw⟩ := ih (k := j + 1) (fun i hi => hgood i (by omega)) (fun i hi => hacq i (by omega))
        (by rw [hcount', hn]; exact hfull) howes' (by rw [hcount', hn]; omega)
      exact ⟨i, by omega, hw⟩
    · have hlast : (ρ (j + 1)).count = (ρ (j + 1)).cfg.n := by rw [hcount', hn]; omega
      exact ⟨j + 1, by omega, State.a2cEnabled_iff.2 ⟨hlast, hq'.trans hq, hr'.trans hr⟩⟩

/-- In a weakly fair run of good states with ACQ_EN = 1 and no reset, a filling frame that is owed a sample becomes
ready. -/
theorem IsRun.filling_frame_becomes_ready (hfair : WeaklyFair σ ρ) (hc : (ρ k).count < (ρ k).cfg.n)
    (howes : AdcOwes σ ρ k) : ∃ j, k ≤ j ∧ (ρ j).ready = true := by
  obtain ⟨i, hi, hw⟩ := hrun.frame_becomes_full hduty hgood hacq hc howes
  obtain ⟨j, hj, hr⟩ := hrun.full_frame_becomes_ready hfair (fun j hj => (hacq j (hi.trans hj)).2)
    (fun j hj => hgood j (hi.trans hj)) hw
  exact ⟨j, hi.trans hj, hr⟩

end

end

/-! The missing samples and one SYNC_A2C (20_memory.md R73). -/

/-- The first of `k + 1` steps, and then the others. -/
theorem runSteps_succ_of_step {s t : State} (h : step s = .next t) (k : Nat) : runSteps (k + 1) s = runSteps k t := by
  rw [runSteps, h]

/-- A state with its own schedule is itself. -/
theorem State.withAgenda_self {s : State} {es : List Event} (h : s.agenda = es) : s.withAgenda es = s := by
  subst h
  rfl

/-- From a frame that is filling with ACQ_EN = 1, full or not, the missing samples and one SYNC_A2C give READY = 1, each
sample is in its slot, and the slots before them are as they were. -/
theorem runSteps_fill (vs : List Int) {s : State} (hwf : s.cfg.wf) (ha : s.acqEn = true) (hr : s.ready = false)
    (hq : s.relReq = false) (hlen : s.count + vs.length = s.cfg.n) (hvs : ∀ v ∈ vs, s.cfg.smin ≤ v ∧ v ≤ s.cfg.smax) :
    ∃ t, runSteps (vs.length + 1) (s.withAgenda (sampleEvents vs ++ [.syncA2C])) = .next t ∧
      t.ready = true ∧ t.count = s.cfg.n ∧
      (∀ i < vs.length, t.frame.read (s.count + i) = some (vs.getD i 0)) ∧
      (∀ n < s.count, t.frame.read n = s.frame.read n) ∧ t.cfg = s.cfg := by
  induction vs generalizing s with
  | nil =>
    have hstep := (synchronizerStepsMoveTheHandoff (s.withAgenda [.syncA2C]) hwf).1 rfl hlen hq hr
    exact ⟨_, runSteps_succ_of_step hstep 0, rfl, hlen, fun i hi => absurd hi (Nat.not_lt_zero i), fun _ _ => rfl, rfl⟩
  | cons v vs ih =>
    rw [List.length_cons] at hlen
    obtain ⟨⟨hlo, hhi⟩, hvs⟩ := List.forall_mem_cons.1 hvs
    obtain ⟨u, hstep, hu, hread, -, -, hother⟩ :=
      (sampleStoresOrIsDropped (s.withAgenda (sampleEvents (v :: vs) ++ [.syncA2C])) _ hwf rfl).1 ha
        (show s.count < s.cfg.n by omega)
    obtain ⟨hcfg, hcount, hacq, hrdy, hrel, hagenda⟩ : u.cfg = s.cfg ∧ u.count = s.count + 1 ∧ u.acqEn = s.acqEn ∧
        u.ready = s.ready ∧ u.relReq = s.relReq ∧ u.agenda = sampleEvents vs ++ [.syncA2C] := by
      rw [hu]
      exact ⟨rfl, rfl, rfl, rfl, rfl, rfl⟩
    rw [State.withAgenda_cfg, everySampleValueCanBeDelivered s.cfg v hwf hlo hhi] at hread
    obtain ⟨t, hrun, hready, hfull, hnew, hold, hcfg'⟩ := ih (s := u) (hcfg ▸ hwf) (hacq.trans ha)
      (hrdy.trans hr) (hrel.trans hq) (by rw [hcount, hcfg]; omega) (hcfg ▸ hvs)
    rw [State.withAgenda_self hagenda] at hrun
    refine ⟨t, (runSteps_succ_of_step hstep _).trans hrun, hready, hfull.trans (by rw [hcfg]), fun i hi => ?_,
      fun n hn => (hold n (by omega)).trans (hother n (Nat.ne_of_lt hn)), hcfg'.trans hcfg⟩
    cases i with
    | zero => exact (hold s.count (by omega)).trans hread
    | succ i => simpa [hcount, Nat.add_right_comm, Nat.add_assoc] using hnew i (Nat.lt_of_succ_lt_succ hi)

/-- Equal slots of equal configurations read as equal samples. -/
theorem State.sampleAt_congr {s t : State} (hcfg : t.cfg = s.cfg) {n : Nat} (h : t.frame.read n = s.frame.read n) :
    t.sampleAt n = s.sampleAt n := by
  rw [State.sampleAt, State.sampleAt, h, hcfg]

/-- A slot with a value reads as it. -/
theorem State.sampleAt_of_read {s : State} {n : Nat} {v : Int} (h : s.frame.read n = some v) : s.sampleAt n = v := by
  rw [State.sampleAt, h]

/-- Settles O27. The finite part fills the frame sample by sample; in a fair run the ADC's duty brings the samples, weak
fairness brings SYNC_A2C and SYNC_C2A, and from reset a filling frame is always owed a sample. -/
theorem fillingTheFrameMakesItReady : Obligations.FillingTheFrameMakesItReady := by
  refine ⟨fun s vs hwf ha hr hq _ hlen hvs => ?_, fun σ ρ k hrun hfair hduty hh hp hacq => ?_,
    fun cfg σ ρ k h0 hrun hfair hduty hacq hc hq => ?_⟩
  · obtain ⟨t, hrun, hready, hfull, hnew, hold, hcfg⟩ := runSteps_fill vs hwf ha hr hq hlen hvs
    exact ⟨t, hrun, hready, hfull, fun i hi => State.sampleAt_of_read (hnew i hi),
      fun n hn => State.sampleAt_congr hcfg (hold n hn)⟩
  · have hgood (j : Nat) (hj : k ≤ j) := hrun.handoff_pendingOk hj ⟨hh, hp⟩
    exact ⟨hrun.filling_frame_becomes_ready hduty hgood hacq hfair,
      hrun.release_arrives hfair fun j hj => (hacq j hj).2⟩
  · have hgood (j : Nat) (_ : k ≤ j) : (ρ j).handoff ∧ (ρ j).pendingOk :=
      hrun.handoff_pendingOk (Nat.zero_le j) (by rw [h0]; exact ⟨handoff_resetOf cfg, pendingOk_resetOf cfg⟩)
    have hcfg : (ρ k).cfg = cfg := (hrun.cfg_eq k).trans (congrArg State.cfg h0)
    have hfilling : (ρ k).count < (ρ k).cfg.n := by rw [hcfg]; exact hc
    have howes := adcOwes_of_reset h0 hrun k (hacq k le_rfl).1 hfilling hq
    exact hrun.filling_frame_becomes_ready hduty hgood hacq hfair hfilling howes

end Sys2Proof.Machine
end

section
/-! PROOFS. The arithmetic of the spectral engine: phases, scaling shift, correlation and power (41_spectral.md R122 to
R126, R130). -/

namespace Sys2Proof.Machine

/-! The phases (41_spectral.md R122). -/

/-- N is at least 4 in a well-formed configuration (00_scope.md R5). -/
theorem Config.four_le_n_of_wf {cfg : Config} (h : cfg.wf) : 4 ≤ cfg.n := by
  obtain ⟨⟨hn, -⟩, -⟩ := h
  simp only [List.mem_cons, List.not_mem_nil, or_false] at hn
  omega

theorem cosPhase_succ (cfg : Config) (k n : Nat) : cosPhase cfg k (n + 1) = (cosPhase cfg k n + k) % cfg.n := by
  rw [cosPhase, cosPhase, Nat.mod_add_mod, Nat.mul_succ]

theorem sinPhase_succ (cfg : Config) (k n : Nat) : sinPhase cfg k (n + 1) = (sinPhase cfg k n + k) % cfg.n := by
  rw [sinPhase, sinPhase, Nat.mod_add_mod, Nat.mul_succ, Nat.add_assoc]

/-- Settles O32: one step of a phase is one addition modulo N, and 3N/4 is below N. -/
theorem phasesAdvanceByTheBin : Obligations.PhasesAdvanceByTheBin := by
  intro cfg k n hwf
  have hn := Config.four_le_n_of_wf hwf
  have hpos : 0 < cfg.n := by omega
  refine ⟨rfl, rfl, Nat.zero_mod _, ?_, cosPhase_succ cfg k n, sinPhase_succ cfg k n, Nat.mod_lt _ hpos, Nat.mod_lt _ hpos⟩
  exact Nat.mod_eq_of_lt (by omega)

/-! The scaling shift (41_spectral.md R123). -/

@[simp] theorem shift_zero (cfg : Config) : shift cfg 0 = 0 := by
  unfold shift
  cases cfg.shiftMode with
  | floor => exact Int.zero_ediv _
  | trunc => exact Int.zero_tdiv _

theorem shift_floor (cfg : Config) (p : Int) : shift { cfg with shiftMode := .floor } p = p / 2 ^ cfg.f := rfl

/-- TRUNC by FLOOR's quotient: one more for a negative number that 2^F does not divide. -/
theorem shift_trunc (cfg : Config) (p : Int) :
    shift { cfg with shiftMode := .trunc } p = p / 2 ^ cfg.f + if 0 ≤ p ∨ (2 ^ cfg.f : Int) ∣ p then 0 else 1 := by
  have hsign : (2 ^ cfg.f : Int).sign = 1 := Int.sign_eq_one_of_pos (by positivity)
  rw [← hsign]
  exact Int.tdiv_eq_ediv

/-- Settles O33: FLOOR is the Euclidean quotient by 2^F, and TRUNC is that quotient or one more. -/
theorem shiftModesDifferByOneBelowZero : Obligations.ShiftModesDifferByOneBelowZero := by
  intro cfg p
  have hd : (0 : Int) < 2 ^ cfg.f := by positivity
  simp only [shift_floor, shift_trunc]
  refine ⟨⟨Int.ediv_mul_le p hd.ne', Int.lt_ediv_add_one_mul_self p hd⟩, fun h => ?_, fun hneg hdvd => ?_⟩
  · rw [if_pos h, add_zero]
  · rw [if_neg (not_or.2 ⟨not_le.2 hneg, hdvd⟩), add_sub_cancel_right]

/-! Correlation and power as sums (41_spectral.md R124, R125). -/

section
variable {cfg : Config}

theorem correlate_perProduct (h : cfg.shiftPoint = .perProduct) (x : Nat → Int) (phase : Nat → Nat) :
    correlate cfg x phase = ∑ n ∈ Finset.range cfg.n, shift cfg (product cfg x phase n) := by
  simp only [correlate, h, accumulate_eq_sum]

theorem correlate_perSum (h : cfg.shiftPoint = .perSum) (x : Nat → Int) (phase : Nat → Nat) :
    correlate cfg x phase = shift cfg (∑ n ∈ Finset.range cfg.n, product cfg x phase n) := by
  simp only [correlate, h, accumulate_eq_sum]

/-- Only the samples of the frame count. -/
theorem correlate_congr {x y : Nat → Int} (h : ∀ n < cfg.n, x n = y n) (phase : Nat → Nat) :
    correlate cfg x phase = correlate cfg y phase := by
  have hprod (n : Nat) (hn : n ∈ Finset.range cfg.n) : product cfg x phase n = product cfg y phase n := by
    rw [product, product, h n (Finset.mem_range.1 hn)]
  cases hp : cfg.shiftPoint with
  | perProduct =>
    rw [correlate_perProduct hp, correlate_perProduct hp]
    exact Finset.sum_congr rfl fun n hn => congrArg _ (hprod n hn)
  | perSum => rw [correlate_perSum hp, correlate_perSum hp, Finset.sum_congr rfl hprod]

/-- A zero frame has correlation 0, in every mode (41_spectral.md R130). -/
theorem correlate_eq_zero {x : Nat → Int} (h : ∀ n < cfg.n, x n = 0) (phase : Nat → Nat) : correlate cfg x phase = 0 := by
  rw [correlate_congr (y := fun _ => 0) h]
  cases hp : cfg.shiftPoint with
  | perProduct => simp [correlate_perProduct hp, product]
  | perSum => simp [correlate_perSum hp, product]

end

/-- The power with its squares written as powers. -/
theorem binPower_eq_sq (cfg : Config) (x : Nat → Int) (k : Nat) :
    binPower cfg x k = (corrRe cfg x k ^ 2 + corrIm cfg x k ^ 2) / (cfg.n : Int) ^ 2 := by
  simp only [binPower, floorDiv, sq]

/-- Settles O34: each accumulator of the loop is the sum of its terms. -/
theorem correlationAndPowerAreTheStatedSums : Obligations.CorrelationAndPowerAreTheStatedSums := by
  intro cfg x k
  refine ⟨fun hp => ⟨correlate_perProduct hp x _, congrArg Neg.neg (correlate_perProduct hp x _)⟩,
    fun hp => ⟨correlate_perSum hp x _, congrArg Neg.neg (correlate_perSum hp x _)⟩, binPower_eq_sq cfg x k⟩

/-! Ranges (41_spectral.md R126). A partial sum of the PER_PRODUCT loop is the whole sum of a frame that is 0 from there
on, so that the bound on whole sums bounds it too. -/

/-- The first `m` samples of a frame, and 0 after them. -/
def firstSamples (m : Nat) (x : Nat → Int) (n : Nat) : Int := if n < m then x n else 0

theorem firstSamples_of_lt {m n : Nat} (x : Nat → Int) (h : n < m) : firstSamples m x n = x n := if_pos h

theorem firstSamples_of_le {m n : Nat} (x : Nat → Int) (h : m ≤ n) : firstSamples m x n = 0 := if_neg (not_lt.2 h)

/-- The partial sum after `m` rounds is the correlation of the first `m` samples. -/
theorem correlate_firstSamples {cfg : Config} (hp : cfg.shiftPoint = .perProduct) {m : Nat} (hm : m ≤ cfg.n)
    (x : Nat → Int) (phase : Nat → Nat) :
    correlate cfg (firstSamples m x) phase = ∑ n ∈ Finset.range m, shift cfg (product cfg x phase n) := by
  rw [correlate_perProduct hp, ← Finset.sum_subset (Finset.range_subset_range.2 hm)]
  · refine Finset.sum_congr rfl fun n hn => ?_
    rw [product, product, firstSamples_of_lt x (Finset.mem_range.1 hn)]
  · intro n _ hn
    rw [product, firstSamples_of_le x (by simpa using hn), zero_mul, shift_zero]

/-- Samples in SMIN..SMAX stay within the magnitude of SMIN when the others are cut off. -/
theorem abs_firstSamples_le {cfg : Config} {x : Nat → Int} (hx : ∀ n < cfg.n, cfg.smin ≤ x n ∧ x n ≤ cfg.smax) {m : Nat}
    (hm : m ≤ cfg.n) (n : Nat) : |firstSamples m x n| ≤ 2 ^ (cfg.sb - 1) := by
  rcases Nat.lt_or_ge n m with hn | hn
  · obtain ⟨hlo, hhi⟩ := hx n (hn.trans_le hm)
    rw [firstSamples_of_lt x hn]
    exact abs_le.2 ⟨hlo, hhi.trans (Int.sub_le_self _ zero_le_one)⟩
  · rw [firstSamples_of_le x hn, abs_zero]
    positivity

theorem binPower_nonneg (cfg : Config) (x : Nat → Int) (k : Nat) : 0 ≤ binPower cfg x k := by
  rw [binPower_eq_sq]
  positivity

/-- Accumulators within A give a power within floor(2 A^2 / N^2). -/
theorem binPower_le_powerBound {cfg : Config} {x : Nat → Int} {k : Nat} (hn : 0 < cfg.n)
    (hre : |corrRe cfg x k| ≤ cfg.accBound) (him : |corrIm cfg x k| ≤ cfg.accBound) :
    binPower cfg x k ≤ cfg.powerBound := by
  have hsum : corrRe cfg x k ^ 2 + corrIm cfg x k ^ 2 ≤ 2 * (cfg.accBound : Int) ^ 2 := by
    rw [two_mul]
    exact add_le_add (sq_le_sq.2 (hre.trans (le_abs_self _))) (sq_le_sq.2 (him.trans (le_abs_self _)))
  rw [binPower_eq_sq, Config.powerBound]
  exact_mod_cast Int.ediv_le_ediv (by positivity) hsum

/-- A power fits a word: all NB powers together do (00_scope.md R7). -/
theorem Config.powerBound_lt_of_wf {cfg : Config} (h : cfg.wf) : cfg.powerBound < 2 ^ 32 := by
  obtain ⟨-, -, -, -, -, hsum⟩ := h
  have hone : cfg.powerBound ≤ cfg.nb * cfg.powerBound := Nat.le_mul_of_pos_left _ (Nat.succ_pos _)
  omega

/-- A word holds every number of its range, given as an integer. -/
theorem toNat_zext32_toNat {v : Int} (h0 : 0 ≤ v) (h : v < 2 ^ 32) : ((zext32 v.toNat).toNat : Int) = v := by
  rw [toNat_zext32 (by omega), Int.toNat_of_nonneg h0]

/-- Settles O35: every sum in question is a correlation of samples in range, which A bounds. -/
theorem spectralValuesStayInRange : Obligations.SpectralValuesStayInRange := by
  refine ⟨by decide, fun cfg x k hwf hx => ?_⟩
  have hfirst {m : Nat} (hm : m ≤ cfg.n) (phase : Nat → Nat) : |correlate cfg (firstSamples m x) phase| ≤ cfg.accBound :=
    abs_correlate_le cfg (abs_firstSamples_le hx hm) phase
  have hall (phase : Nat → Nat) : |correlate cfg x phase| ≤ cfg.accBound :=
    correlate_congr (fun _ => firstSamples_of_lt x) phase ▸ hfirst le_rfl phase
  have hre : |corrRe cfg x k| ≤ cfg.accBound := hall _
  have him : |corrIm cfg x k| ≤ cfg.accBound := (abs_neg _).trans_le (hall _)
  have hn := Config.four_le_n_of_wf hwf
  have hle := binPower_le_powerBound (by omega) hre him
  have hlt := Config.powerBound_lt_of_wf hwf
  have h0 := binPower_nonneg cfg x k
  obtain ⟨-, -, -, -, hacc, -⟩ := hwf
  refine ⟨hre, him, fun hp m hm => ⟨?_, ?_⟩, hacc, h0, hle, hlt, toNat_zext32_toNat h0 (by omega)⟩
  · exact correlate_firstSamples hp hm x (cosPhase cfg k) ▸ hfirst hm _
  · rw [abs_neg]
    exact correlate_firstSamples hp hm x (sinPhase cfg k) ▸ hfirst hm _

end Sys2Proof.Machine
end

section
/-! PROOFS. The commands of the spectral engine, DFT and DFTB, and the fold that ends a DFT (41_spectral.md R127 to R130;
42_band_mapper.md R140, R147). -/

namespace Sys2Proof.Machine

/-! POWER after DFT, DFTB (41_spectral.md R126 to R128). -/

/-- The word stored for a bin is exactly its power (41_spectral.md R126). -/
theorem State.toNat_powerWord {s : State} (hwf : s.cfg.wf) (hf : s.frameOk) (k : Nat) :
    ((s.powerWord k).toNat : Int) = binPower s.cfg s.sampleAt k := by
  obtain ⟨-, -, -, -, -, -, -, hexact⟩ :=
    spectralValuesStayInRange.2 s.cfg s.sampleAt k hwf fun n _ => State.sampleAt_range hf n
  exact hexact

/-- POWER after DFT (41_spectral.md R127). -/
theorem State.powerAt_dftAll (s : State) {k : Nat} (hk : k < s.cfg.nb) : s.dftAll.powerAt k = s.powerWord k :=
  getD_map_range _ _ hk

/-! BUCKET after FOLD (42_band_mapper.md R140). -/

/-- A direct bucket copies its bin. -/
theorem State.bucketAt_foldBuckets (s : State) {b : Nat} (hb : b < s.cfg.nbd) : s.foldBuckets.bucketAt b = s.powerAt b := by
  have hlen : b < ((List.range s.cfg.nbd).map s.powerAt).length := by simpa using hb
  exact (List.getD_append _ _ _ _ hlen).trans (getD_map_range _ _ hb)

/-- The last bucket is the residual. -/
theorem State.bucketAt_foldBuckets_nbd (s : State) : s.foldBuckets.bucketAt s.cfg.nbd = zext32 s.residual := by
  simp [State.bucketAt, State.foldBuckets]

theorem State.residual_eq_sum (s : State) :
    s.residual = ∑ k ∈ Finset.Ico s.cfg.nbd s.cfg.nb, (s.powerAt k).toNat := rfl

/-- The residual of powers within their bound fits a word (00_scope.md R7). -/
theorem State.residual_lt {s : State} (hwf : s.cfg.wf) (hp : s.powerOk) : s.residual < 2 ^ 32 := by
  obtain ⟨-, -, -, -, -, hfits⟩ := hwf
  have hsum : s.residual ≤ (s.cfg.nb - s.cfg.nbd) * s.cfg.powerBound := by
    rw [s.residual_eq_sum, ← Nat.card_Ico, ← smul_eq_mul]
    exact Finset.sum_le_card_nsmul _ _ _ fun k hk => hp k (Finset.mem_Ico.1 hk).2
  have hall := Nat.mul_le_mul_right s.cfg.powerBound (Nat.sub_le s.cfg.nb s.cfg.nbd)
  omega

/-- The residual bucket is the exact sum of the bins from NBD on. -/
theorem State.toNat_bucketAt_foldBuckets_nbd {s : State} (hwf : s.cfg.wf) (hp : s.powerOk) :
    (s.foldBuckets.bucketAt s.cfg.nbd).toNat = ∑ k ∈ Finset.Ico s.cfg.nbd s.cfg.nb, (s.powerAt k).toNat := by
  rw [s.bucketAt_foldBuckets_nbd, toNat_zext32 (State.residual_lt hwf hp), s.residual_eq_sum]

/-- Settles O36: every bin's word is exact, and the buckets are the fold of them. -/
theorem dftComputesTheSpectrumAndFolds : Obligations.DftComputesTheSpectrumAndFolds := by
  intro s hwf hf
  refine ⟨s.dftAll, rfl, rfl, s.length_power_dftAll, s.length_bucket_dftAll, fun k hk => ?_, fun b hb => ?_, ?_⟩
  · rw [s.powerAt_dftAll (Nat.lt_succ_of_le hk), State.toNat_powerWord hwf hf]
  · exact s.dftBins.bucketAt_foldBuckets hb
  · exact State.toNat_bucketAt_foldBuckets_nbd (s := s.dftBins) hwf (powerOk_dftAll hf)

/-- DFTB of a bin below NB runs (41_spectral.md R128). -/
theorem exec_dftb {k : BitVec 8} {s : State} (hk : k.toNat ≤ s.cfg.n / 2) : exec (.dftb k) s = .next (s.dftBin k.toNat) :=
  if_pos hk

/-- Settles O37: DFTB writes the one entry of POWER, exactly. -/
theorem dftbComputesOneBin : Obligations.DftbComputesOneBin := by
  intro s k hwf hf hshape hk
  obtain ⟨hlen, -⟩ := hshape
  have hlt : k.toNat < s.power.length := hlen ▸ Nat.lt_succ_of_le hk
  have hpower := s.powerAt_dftBin hlt
  refine ⟨s.dftBin k.toNat, exec_dftb hk, rfl, ?_, List.length_set, fun j hj => ?_⟩
  · rw [hpower, if_pos rfl, State.toNat_powerWord hwf hf]
  · rw [hpower, if_neg hj]

/-! DFTB for every bin (41_spectral.md R128). -/

theorem runCommands_append {is js : List Instr} {s t : State} (h : runCommands is s = .next t) :
    runCommands (is ++ js) s = runCommands js t := by
  induction is generalizing s with
  | nil => cases h; rfl
  | cons i is ih =>
    simp only [List.cons_append, runCommands] at h ⊢
    cases hi : exec i s with
    | next u => rw [hi] at h; exact ih h
    | fault f => rw [hi] at h; cases h
    | refused r => rw [hi] at h; cases h

/-- The state after DFTB for the bins below `m`: they are computed, the others are as they were. -/
def State.firstBins (s : State) (m : Nat) : State :=
  { s with power := (List.range m).map s.powerWord ++ s.power.drop m }

/-- DFTB for the next bin computes one more. -/
theorem State.dftBin_firstBins (s : State) {m : Nat} (h : m < s.power.length) :
    (s.firstBins m).dftBin m = s.firstBins (m + 1) := by
  have hpower : ((List.range m).map s.powerWord ++ s.power.drop m).set m (s.powerWord m) =
      (List.range (m + 1)).map s.powerWord ++ s.power.drop (m + 1) := by
    rw [List.set_append_right _ _ (by simp), List.length_map, List.length_range, Nat.sub_self,
      List.drop_eq_getElem_cons h, List.set_cons_zero, List.range_succ, List.map_append, List.append_assoc]
    rfl
  exact congrArg (fun p => { s with power := p }) hpower

/-- Every bin computed is POWER as DFT computes it. -/
theorem State.firstBins_nb {s : State} (h : s.power.length = s.cfg.nb) : s.firstBins s.cfg.nb = s.dftBins := by
  rw [State.firstBins, List.drop_eq_nil_of_le h.le, List.append_nil]
  rfl

/-- A run of DFTB for the bins below `m`. -/
theorem runCommands_dftb {s : State} (hwf : s.cfg.wf) (hlen : s.power.length = s.cfg.nb) {m : Nat} (hm : m ≤ s.cfg.nb) :
    runCommands ((List.range m).map fun k => .dftb (BitVec.ofNat 8 k)) s = .next (s.firstBins m) := by
  induction m with
  | zero => rfl
  | succ m ih =>
    obtain ⟨hn, -⟩ := Config.bounds_of_wf hwf
    have hle : m ≤ s.cfg.n / 2 := Nat.lt_succ_iff.1 hm
    have hk : (BitVec.ofNat 8 m).toNat = m := Nat.mod_eq_of_lt (by omega)
    have hlast : exec (.dftb (BitVec.ofNat 8 m)) (s.firstBins m) = .next (s.firstBins (m + 1)) := by
      rw [exec_dftb (s := s.firstBins m) (hk.trans_le hle), hk, s.dftBin_firstBins (hlen ▸ hm)]
    rw [List.range_succ, List.map_append, runCommands_append (ih (Nat.le_of_succ_le hm)), List.map_singleton, runCommands,
      hlast]
    rfl

/-- Settles O38: the bins one by one make POWER what DFT makes it, and the same fold follows. -/
theorem everyBinThenFoldEqualsDft : Obligations.EveryBinThenFoldEqualsDft := by
  intro s hwf hlen
  rw [runCommands_append (runCommands_dftb hwf hlen le_rfl), State.firstBins_nb hlen]
  rfl

/-! Zero frames and zero spectra (41_spectral.md R130; 42_band_mapper.md R147). -/

/-- A list of nothing but the default reads as the default, inside and beyond it. -/
theorem getD_eq_default_of_forall {α : Type} {l : List α} {d : α} (h : ∀ a ∈ l, a = d) (k : Nat) : l.getD k d = d := by
  rw [List.getD_eq_getElem?_getD]
  cases hk : l[k]? with
  | none => rfl
  | some a => exact h a (List.mem_of_getElem? hk)

/-- A zero frame stores power 0 in every bin. -/
theorem State.powerWord_eq_zero {s : State} (h : ∀ n < s.cfg.n, s.sampleAt n = 0) (k : Nat) : s.powerWord k = 0 := by
  have hpower : binPower s.cfg s.sampleAt k = 0 := by
    simp [binPower_eq_sq, corrRe, corrIm, correlate_eq_zero h]
  rw [State.powerWord, hpower]
  rfl

theorem State.powerAt_dftAll_eq_zero {s : State} (h : ∀ n < s.cfg.n, s.sampleAt n = 0) (k : Nat) :
    s.dftAll.powerAt k = 0 :=
  getD_eq_default_of_forall (List.forall_mem_map.2 fun j _ => State.powerWord_eq_zero h j) k

/-- A zero spectrum folds to zero buckets. -/
theorem State.bucketAt_foldBuckets_eq_zero {s : State} (h : ∀ k, s.powerAt k = 0) (b : Nat) :
    s.foldBuckets.bucketAt b = 0 := by
  have hresidual : s.residual = 0 := by simp [s.residual_eq_sum, h]
  refine getD_eq_default_of_forall (List.forall_mem_append.2 ⟨List.forall_mem_map.2 fun k _ => h k, ?_⟩) b
  rw [List.forall_mem_singleton, hresidual]
  rfl

/-- No threshold is below 0, so zero buckets make no channel active (42_band_mapper.md R147). -/
theorem State.activeAt_mapAll_eq_false {s : State} (h : ∀ b, s.bucketAt b = 0) (c : Nat) : s.mapAll.activeAt c = false := by
  refine getD_eq_default_of_forall (List.forall_mem_map.2 fun c _ => ?_) c
  simp [State.comparator, h]

/-- Settles O40: zero samples give zero correlations, powers and buckets in turn, and no channel is active on zero
buckets. -/
theorem zeroFrameGivesZeroSpectrum : Obligations.ZeroFrameGivesZeroSpectrum := by
  refine ⟨fun s hzero => ⟨fun k => ⟨correlate_eq_zero hzero _, ?_⟩, ?_⟩,
    fun s hzero => ⟨_, rfl, State.activeAt_mapAll_eq_false hzero⟩⟩
  · rw [corrIm, correlate_eq_zero hzero, neg_zero]
  · have hpower := State.powerAt_dftAll_eq_zero hzero
    have hbucket := State.bucketAt_foldBuckets_eq_zero (s := s.dftBins) hpower
    exact ⟨_, _, rfl, rfl, hpower, hbucket, State.activeAt_mapAll_eq_false hbucket⟩

/-! What the spectrum depends on (41_spectral.md R129). -/

/-- The words for the bins are those of the frame and the configuration. -/
theorem State.powerWord_congr {s u : State} (hcfg : u.cfg = s.cfg) (hframe : u.frame = s.frame) :
    u.powerWord = s.powerWord := by
  have hsample : u.sampleAt = s.sampleAt := funext fun n => State.sampleAt_congr hcfg (by rw [hframe])
  funext k
  rw [State.powerWord, State.powerWord, hcfg, hsample]

/-- The buckets are those of the powers and the configuration. -/
theorem State.bucket_foldBuckets_congr {s u : State} (hcfg : u.cfg = s.cfg) (hpower : u.power = s.power) :
    u.foldBuckets.bucket = s.foldBuckets.bucket := by
  have hat : u.powerAt = s.powerAt := funext fun k => by rw [State.powerAt, State.powerAt, hpower]
  simp only [State.foldBuckets, State.residual, hcfg, hat]

/-- Settles O39: equal frames and configurations give equal words for the bins, FRAME runs the same `dftAll`, and DFT
keeps the frame that it reads. -/
theorem spectrumDependsOnlyOnTheFrame : Obligations.SpectrumDependsOnlyOnTheFrame := by
  refine ⟨fun s u hcfg hframe => ?_, fun s t h => ?_⟩
  · have hpower : s.dftAll.power = u.dftAll.power :=
      congrArg₂ (fun c w => (List.range (Config.nb c)).map w) hcfg (State.powerWord_congr hcfg hframe)
    have hbucket : s.dftAll.bucket = u.dftAll.bucket :=
      State.bucket_foldBuckets_congr (s := u.dftBins) (u := s.dftBins) hcfg hpower
    exact ⟨_, _, _, _, rfl, rfl, rfl, rfl, hpower, hbucket, rfl, hpower.symm, rfl, hbucket.symm⟩
  · cases h
    rfl

end Sys2Proof.Machine
end

section
/-! PROOFS. The band mapper: FOLD, MAP, SETA (42_band_mapper.md). -/

namespace Sys2Proof.Machine

/-! FOLD (42_band_mapper.md R140 to R142). -/

/-- Without an extra bin the residual is the empty sum. -/
theorem State.bucketAt_foldBuckets_nbd_eq_zero {s : State} (h : s.cfg.nbd = s.cfg.n / 2 + 1) :
    s.foldBuckets.bucketAt s.cfg.nbd = 0 := by
  have hresidual : s.residual = 0 := by
    rw [s.residual_eq_sum, Finset.Ico_eq_empty_of_le (show s.cfg.nb ≤ s.cfg.nbd from h.ge), Finset.sum_empty]
  rw [s.bucketAt_foldBuckets_nbd, hresidual]
  rfl

/-- Settles O41: the direct buckets, the residual as a sum below 2^32, and the residual of no bins. -/
theorem foldRecomputesTheBuckets : Obligations.FoldRecomputesTheBuckets := by
  intro s hwf hp
  exact ⟨s.foldBuckets, rfl, rfl, s.length_bucket_foldBuckets, fun _ => s.bucketAt_foldBuckets,
    State.toNat_bucketAt_foldBuckets_nbd hwf hp, State.bucketAt_foldBuckets_nbd_eq_zero⟩

/-- NBD is at most NB: every direct bucket has its bin (00_scope.md R5). -/
theorem Config.nbd_le_nb_of_wf {cfg : Config} (h : cfg.wf) : cfg.nbd ≤ cfg.nb := by
  obtain ⟨⟨-, -, -, -, -, -, -, -, -, -, hnbd, -⟩, -⟩ := h
  exact hnbd

/-- Settles O42: the direct buckets are the bins below NBD, and the residual sums the others. -/
theorem foldLosesNoEnergy : Obligations.FoldLosesNoEnergy := by
  intro s hwf hp
  have hdirect : ∑ b ∈ Finset.range s.cfg.nbd, (s.foldBuckets.bucketAt b).toNat =
      ∑ k ∈ Finset.range s.cfg.nbd, (s.powerAt k).toNat :=
    Finset.sum_congr rfl fun b hb => by rw [s.bucketAt_foldBuckets (Finset.mem_range.1 hb)]
  refine ⟨s.foldBuckets, rfl, ?_⟩
  rw [Finset.sum_range_succ, hdirect, State.toNat_bucketAt_foldBuckets_nbd hwf hp]
  exact Finset.sum_range_add_sum_Ico _ (Config.nbd_le_nb_of_wf hwf)

/-! MAP (42_band_mapper.md R143, R144). -/

/-- MAP stores the comparator of every channel. -/
theorem State.activeAt_mapAll (s : State) {c : Nat} (hc : c < s.cfg.numCh) : s.mapAll.activeAt c = s.comparator c :=
  getD_map_range _ _ hc

theorem State.comparator_eq_true_iff (s : State) (c : Nat) :
    s.comparator c = true ↔ (threshAt s.cfg c).toNat < (s.bucketAt (selAt s.cfg c)).toNat :=
  decide_eq_true_iff

/-- No word is above the greatest one. -/
theorem State.comparator_eq_false_of_thresh_max {s : State} {c : Nat} (h : threshAt s.cfg c = 0xFFFFFFFF) :
    s.comparator c = false := by
  have hle : (s.bucketAt (selAt s.cfg c)).toNat ≤ (threshAt s.cfg c).toNat := by
    rw [h]
    exact Nat.le_of_lt_succ (s.bucketAt (selAt s.cfg c)).isLt
  exact decide_eq_false hle.not_gt

/-- Settles O43: every active bit is its channel's comparator. -/
theorem mapComparesEveryChannel : Obligations.MapComparesEveryChannel := by
  refine fun s => ⟨s.mapAll, rfl, rfl, s.length_active_mapAll, fun c hc => ?_⟩
  rw [s.activeAt_mapAll hc]
  exact ⟨s.comparator_eq_true_iff c, State.comparator_eq_false_of_thresh_max⟩

/-! SETA (42_band_mapper.md R145). -/

/-- SETA with its operands in range runs. -/
theorem exec_seta {c : BitVec 4} {v : BitVec 8} {s : State} (hc : c.toNat < s.cfg.numCh) (hv : v.toNat ≤ 1) :
    exec (.seta c v) s = .next (s.setActive c.toNat (decide (v.toNat = 1))) :=
  if_pos ⟨hc, hv⟩

theorem State.activeAt_setActive_same {s : State} {c : Nat} (hc : c < s.active.length) (v : Bool) :
    (s.setActive c v).activeAt c = v := by
  rw [State.activeAt, State.setActive_active, List.getD_eq_getElem?_getD, List.getElem?_set_self hc, Option.getD_some]

theorem State.activeAt_setActive_ne (s : State) {c j : Nat} (h : j ≠ c) (v : Bool) :
    (s.setActive c v).activeAt j = s.activeAt j := by
  rw [State.activeAt, State.activeAt, State.setActive_active, List.getD_eq_getElem?_getD, List.getElem?_set_ne h.symm,
    List.getD_eq_getElem?_getD]

/-- Settles O44: the one bit is written, and the others are read as before. -/
theorem setaSetsOneActiveBit : Obligations.SetaSetsOneActiveBit := by
  intro s c v hshape hc hv
  obtain ⟨-, -, hlen, -⟩ := hshape
  refine ⟨_, exec_seta hc hv, rfl, List.length_set.trans hlen, ?_, fun j hj => s.activeAt_setActive_ne hj _⟩
  rw [State.activeAt_setActive_same (hlen ▸ hc), decide_eq_true_iff]
  exact BitVec.toNat_inj (y := 1#8)

end Sys2Proof.Machine
end

section
/-! PROOFS. The hysteresis bank: HYST, HCLR and runs of frames (43_hysteresis.md). -/

namespace Sys2Proof.Machine

/-! One HYST on one channel (43_hysteresis.md R160, R162). -/

/-- HYST stores the next counter of every channel. -/
theorem State.hcntAt_hystAll (s : State) {c : Nat} (hc : c < s.cfg.numCh) : s.hystAll.hcntAt c = (s.hstepAt c).1 :=
  getD_map_range _ _ hc

/-- HYST stores the next output of every channel. -/
theorem State.outAt_hystAll (s : State) {c : Nat} (hc : c < s.cfg.numCh) : s.hystAll.outAt c = (s.hstepAt c).2 :=
  getD_map_range _ _ hc

/-- An active frame is an attack. -/
theorem State.hcntAt_hystAll_of_active {s : State} {c : Nat} (hc : c < s.cfg.numCh) (ha : s.activeAt c = true) :
    s.hystAll.hcntAt c = attack s.cfg (s.hcntAt c) := by
  rw [s.hcntAt_hystAll hc, State.hstepAt, hstep_spec, if_pos ha]

/-- A silent frame counts down, and stays at 0. -/
theorem State.toNat_hcntAt_hystAll_of_silent {s : State} {c : Nat} (hc : c < s.cfg.numCh) (ha : s.activeAt c = false) :
    (s.hystAll.hcntAt c).toNat = (s.hcntAt c).toNat - 1 := by
  rw [s.hcntAt_hystAll hc, State.hstepAt, hstep_spec, if_neg (Bool.eq_false_iff.1 ha)]
  split
  · next hzero => rw [hzero]; rfl
  · exact Nat.mod_eq_of_lt ((Nat.sub_le _ 1).trans_lt (s.hcntAt c).isLt)

/-- OUT is 0 after HYST exactly on a channel that is silent and finds its counter at 0 (43_hysteresis.md R165). -/
theorem State.outAt_hystAll_eq_false_iff {s : State} {c : Nat} (hc : c < s.cfg.numCh) :
    s.hystAll.outAt c = false ↔ s.activeAt c = false ∧ (s.hcntAt c).toNat = 0 := by
  rw [s.outAt_hystAll hc, State.hstepAt, hstep_spec]
  split
  · next ha => simp [ha]
  · next ha =>
    split
    · next hzero => simp [ha, hzero]
    · next hpos => simp [hpos]

/-- An active frame lights the channel (43_hysteresis.md R166). -/
theorem State.outAt_hystAll_of_active {s : State} {c : Nat} (hc : c < s.cfg.numCh) (ha : s.activeAt c = true) :
    s.hystAll.outAt c = true := by
  rw [← Bool.not_eq_false, State.outAt_hystAll_eq_false_iff hc]
  simp [ha]

/-- A silent frame leaves OUT on exactly while it finds the counter above 0. -/
theorem State.outAt_hystAll_of_silent {s : State} {c : Nat} (hc : c < s.cfg.numCh) (ha : s.activeAt c = false) :
    s.hystAll.outAt c = true ↔ 0 < (s.hcntAt c).toNat := by
  rw [← Bool.not_eq_false, State.outAt_hystAll_eq_false_iff hc, Nat.pos_iff_ne_zero]
  simp [ha]

/-- The attack of INC1, as a number (43_hysteresis.md R161). -/
theorem toNat_attack_inc1 {cfg : Config} (hwf : cfg.wf) (hmode : cfg.attackMode = .inc1) (cnt : Byte) :
    (attack cfg cnt).toNat = min (cnt.toNat + 1) cfg.max := by
  rw [attack_toNat (max_le_of_wf hwf), hmode]

/-- The attack of LOAD_MAX, as a number (43_hysteresis.md R161). -/
theorem toNat_attack_loadMax {cfg : Config} (hwf : cfg.wf) (hmode : cfg.attackMode = .loadMax) (cnt : Byte) :
    (attack cfg cnt).toNat = cfg.max := by
  rw [attack_toNat (max_le_of_wf hwf), hmode]

/-- Settles O45: the two attack modes, the decay and the release of every channel. -/
theorem hystMovesEveryChannel : Obligations.HystMovesEveryChannel := by
  refine fun s hwf => ⟨s.hystAll, rfl, rfl, s.length_hcnt_hystAll, s.length_out_hystAll, fun c hc => ⟨?_, ?_, ?_, ?_⟩⟩
  · intro ha hmode
    rw [State.hcntAt_hystAll_of_active hc ha]
    exact ⟨toNat_attack_inc1 hwf hmode _, State.outAt_hystAll_of_active hc ha⟩
  · intro ha hmode
    rw [State.hcntAt_hystAll_of_active hc ha]
    exact ⟨toNat_attack_loadMax hwf hmode _, State.outAt_hystAll_of_active hc ha⟩
  · intro ha hpos
    exact ⟨State.toNat_hcntAt_hystAll_of_silent hc ha, (State.outAt_hystAll_of_silent hc ha).2 hpos⟩
  · intro ha hzero
    have hcnt : (s.hystAll.hcntAt c).toNat = 0 := by rw [State.toNat_hcntAt_hystAll_of_silent hc ha, hzero]
    exact ⟨BitVec.eq_of_toNat_eq hcnt, (State.outAt_hystAll_eq_false_iff hc).2 ⟨ha, hzero⟩⟩

/-! HCLR (43_hysteresis.md R163). -/

/-- Settles O46: HCLR replaces both lists by zeros of the same length. -/
theorem hclrClearsTheBank : Obligations.HclrClearsTheBank := by
  refine fun s => ⟨s.clearBank, rfl, rfl, List.length_replicate, List.length_replicate, fun c hc => ?_⟩
  exact ⟨List.getD_replicate _ hc, List.getD_replicate _ hc⟩

/-! Runs of HYST under one ACTIVE (43_hysteresis.md R164, R166). -/

/-- A run of HYSTs is the bank's transition iterated. -/
theorem runCommands_replicate_hyst (m : Nat) (s : State) :
    runCommands (List.replicate m .hyst) s = .next (State.hystAll^[m] s) := by
  induction m generalizing s with
  | zero => rfl
  | succ m ih => exact ih s.hystAll

@[simp] theorem State.iterate_hystAll_cfg (s : State) (m : Nat) : (State.hystAll^[m] s).cfg = s.cfg := by
  induction m generalizing s with
  | zero => rfl
  | succ m ih => exact ih s.hystAll

@[simp] theorem State.iterate_hystAll_activeAt (s : State) (m c : Nat) :
    (State.hystAll^[m] s).activeAt c = s.activeAt c := by
  induction m generalizing s with
  | zero => rfl
  | succ m ih => exact ih s.hystAll

section
variable {s : State} {c : Nat} (hc : c < s.cfg.numCh)
include hc

/-- `m` silent frames take `m` off the counter, down to 0. -/
theorem State.toNat_hcntAt_iterate_hystAll_of_silent (ha : s.activeAt c = false) (m : Nat) :
    ((State.hystAll^[m] s).hcntAt c).toNat = (s.hcntAt c).toNat - m := by
  induction m with
  | zero => rfl
  | succ m ih =>
    rw [Function.iterate_succ_apply', State.toNat_hcntAt_hystAll_of_silent (by simpa using hc) (by simpa using ha), ih,
      Nat.sub_sub]

/-- OUT is still 1 after silent frame `m + 1` exactly if the counter was above `m`. -/
theorem State.outAt_iterate_hystAll_of_silent (ha : s.activeAt c = false) (m : Nat) :
    (State.hystAll^[m + 1] s).outAt c = true ↔ m < (s.hcntAt c).toNat := by
  rw [Function.iterate_succ_apply', State.outAt_hystAll_of_silent (by simpa using hc) (by simpa using ha),
    State.toNat_hcntAt_iterate_hystAll_of_silent hc ha, Nat.sub_pos_iff_lt]

/-- The last active frame is an attack on the counter the frames before it left. -/
theorem State.hcntAt_iterate_hystAll_of_active (ha : s.activeAt c = true) (m : Nat) :
    (State.hystAll^[m + 1] s).hcntAt c = attack s.cfg ((State.hystAll^[m] s).hcntAt c) := by
  rw [Function.iterate_succ_apply', State.hcntAt_hystAll_of_active (by simpa using hc) (by simpa using ha),
    s.iterate_hystAll_cfg]

/-- Active frames keep OUT on (43_hysteresis.md R166). -/
theorem State.outAt_iterate_hystAll_of_active (ha : s.activeAt c = true) (m : Nat) :
    (State.hystAll^[m + 1] s).outAt c = true := by
  rw [Function.iterate_succ_apply']
  exact State.outAt_hystAll_of_active (by simpa using hc) (by simpa using ha)

/-- Under INC1, `m + 1` active frames add as much to the counter, up to MAX. A counter above MAX, which no reachable
state holds, falls to MAX in the first frame; hence the run of at least one frame. -/
theorem State.toNat_hcntAt_iterate_hystAll_inc1 (hwf : s.cfg.wf) (hmode : s.cfg.attackMode = .inc1)
    (ha : s.activeAt c = true) (m : Nat) :
    ((State.hystAll^[m + 1] s).hcntAt c).toNat = min ((s.hcntAt c).toNat + (m + 1)) s.cfg.max := by
  induction m with
  | zero =>
    rw [State.hcntAt_iterate_hystAll_of_active hc ha, toNat_attack_inc1 hwf hmode]
    rfl
  | succ m ih =>
    rw [State.hcntAt_iterate_hystAll_of_active hc ha, toNat_attack_inc1 hwf hmode, ih]
    omega

/-- Under LOAD_MAX, the last active frame loads MAX. -/
theorem State.toNat_hcntAt_iterate_hystAll_loadMax (hwf : s.cfg.wf) (hmode : s.cfg.attackMode = .loadMax)
    (ha : s.activeAt c = true) (m : Nat) : ((State.hystAll^[m + 1] s).hcntAt c).toNat = s.cfg.max := by
  rw [State.hcntAt_iterate_hystAll_of_active hc ha, toNat_attack_loadMax hwf hmode]

end

/-- Settles O48: the counter after `m` silent frames, and OUT from the counter that the last of them found. -/
theorem silentFramesReleaseTheOutput : Obligations.SilentFramesReleaseTheOutput := by
  intro s c m _ hc ha hm
  obtain ⟨m, rfl⟩ := Nat.exists_eq_add_of_le' hm
  exact ⟨_, runCommands_replicate_hyst _ s, State.toNat_hcntAt_iterate_hystAll_of_silent hc ha _,
    State.outAt_iterate_hystAll_of_silent hc ha m⟩

/-- MAX is at least 1 in a well-formed configuration (00_scope.md R5). -/
theorem one_le_max_of_wf {cfg : Config} (h : cfg.wf) : 1 ≤ cfg.max := by
  obtain ⟨⟨-, -, -, -, -, -, -, -, -, -, -, hmax, -⟩, -⟩ := h
  exact hmax

/-- Settles O49: the counter after `m` active frames in each mode, which is at least 1 since MAX is. -/
theorem activeFramesChargeTheCounter : Obligations.ActiveFramesChargeTheCounter := by
  intro s c m hwf hc ha hm
  obtain ⟨m, rfl⟩ := Nat.exists_eq_add_of_le' hm
  have hinc1 (hmode) := State.toNat_hcntAt_iterate_hystAll_inc1 hc hwf hmode ha m
  have hload (hmode) := State.toNat_hcntAt_iterate_hystAll_loadMax hc hwf hmode ha m
  have hmax := one_le_max_of_wf hwf
  refine ⟨_, runCommands_replicate_hyst _ s, State.outAt_iterate_hystAll_of_active hc ha m, ?_, hinc1, hload⟩
  cases hmode : s.cfg.attackMode with
  | inc1 => rw [hinc1 hmode]; exact le_min (Nat.le_add_left_of_le (Nat.le_add_left 1 m)) hmax
  | loadMax => rw [hload hmode]; exact hmax

/-! Where OFF comes from (43_hysteresis.md R165). -/

/-- Settles O50: only a command that runs writes OUT; HCLR is a case of its own, and HYST and FRAME clear OUT only on a
silent channel with its counter at 0, FRAME with the ACTIVE it has just computed. -/
theorem outputFallsOnlyFromSilentZero : Obligations.OutputFallsOnlyFromSilentZero := by
  intro s t c hc h hon hoff
  by_cases hreset : s.nextEvent = .reset
  · exact .inl hreset
  have hout : t.out ≠ s.out := fun heq =>
    Bool.false_ne_true (hoff.symm.trans ((congrArg (·.getD c false) heq).trans hon))
  cases (step_changes h hreset).results with
  | same _ _ _ _ ho => exact absurd ho hout
  | computed hx hu ht =>
    subst ht
    obtain ⟨-, -, -, hbank⟩ := exec_next_results hu
    rcases hbank (.inr hout) with rfl | rfl | rfl
    · cases hu
      exact .inr (.inr (.inl ⟨hx, (State.outAt_hystAll_eq_false_iff (s := s.advance) hc).1 hoff⟩))
    · exact .inr (.inl hx)
    · cases hu
      exact .inr (.inr (.inr ⟨hx, (State.outAt_hystAll_eq_false_iff (s := s.advance.dftAll.mapAll) hc).1 hoff⟩))

end Sys2Proof.Machine
end

section
/-! PROOFS. The issue of a command and the engine step: what becomes pending, what runs, and what faults
(44_control.md R180 to R185). -/

namespace Sys2Proof.Machine

/-! The engine step (44_control.md R181, R185). -/

/-- A command whose operands are in range runs in every state (44_control.md R185). -/
theorem exec_of_wf {i : Instr} {s : State} (h : i.wf s.cfg = true) : ∃ t, exec i s = .next t := by
  cases i with
  | dftb k => exact ⟨_, exec_dftb (of_decide_eq_true h)⟩
  | seta c v =>
    obtain ⟨hc, hv⟩ := of_decide_eq_true h
    exact ⟨_, exec_seta hc hv⟩
  | _ => exact ⟨_, rfl⟩

/-- EXEC runs the command that the pending word decodes to. -/
theorem engineExec_of_decode {s : State} {i : Instr} (hb : s.busy = true) (hi : decode s.cfg s.pcmd = .ok i) :
    engineExec s = finish (exec i s) := by
  rw [engineExec, if_pos hb, hi]

/-- A legal word decodes to a command with its operands in range (30_encoding.md R88). -/
theorem decode_of_legal {cfg : Config} {w : Word} (h : legal cfg w = true) :
    ∃ i, decode cfg w = .ok i ∧ i.wf cfg = true := by
  obtain ⟨i, hi, -⟩ := (decodingIsTotal.1 cfg w).1 h
  exact ⟨i, hi, (decode_eq_ok_iff.1 hi).2⟩

/-- EXEC of a pending legal word gives a next state: the decoded command's, with BUSY = 0. -/
theorem engineExec_of_legal {s : State} (hb : s.busy = true) (hl : legal s.cfg s.pcmd = true) :
    ∃ i t, decode s.cfg s.pcmd = .ok i ∧ exec i s = .next t ∧ engineExec s = .next t.setIdle := by
  obtain ⟨i, hi, hwf⟩ := decode_of_legal hl
  obtain ⟨t, ht⟩ := exec_of_wf hwf
  exact ⟨i, t, hi, ht, by rw [engineExec_of_decode hb hi, ht]; rfl⟩

/-- EXEC faults exactly on a pending illegal word: a legal one decodes with its operands in range, and then its command
runs (log entry 11). -/
theorem engineExec_faults_iff (s : State) :
    (∃ f, engineExec s = .fault f) ↔ s.busy = true ∧ legal s.cfg s.pcmd = false := by
  cases hb : s.busy with
  | false => simp [engineExec, hb]
  | true =>
    cases hl : legal s.cfg s.pcmd with
    | true =>
      obtain ⟨i, t, -, -, ht⟩ := engineExec_of_legal hb hl
      simp [ht]
    | false =>
      obtain ⟨e, he⟩ := (decodingIsTotal.1 s.cfg s.pcmd).2 hl
      have hf : engineExec s = .fault .illegalPcmd := by rw [engineExec, if_pos hb, he]
      exact iff_of_true ⟨_, hf⟩ ⟨rfl, rfl⟩

/-- Of the events only EXEC can fault. -/
theorem perform_faults_iff (e : Event) (s : State) :
    (∃ f, perform e s = .fault f) ↔ e = .exec ∧ s.busy = true ∧ legal s.cfg s.pcmd = false := by
  cases e with
  | exec => simp [perform, engineExec_faults_iff]
  | _ => simp [perform]

/-- Settles O15: an ill-formed configuration is refused, and of the events of a well-formed one only EXEC can fault. -/
theorem engineFaultsExactlyOnAnIllegalPendingWord : Obligations.EngineFaultsExactlyOnAnIllegalPendingWord := by
  intro s
  by_cases hwf : s.cfg.wf
  · rw [step_eq_perform hwf, perform_faults_iff]
    exact (and_iff_right hwf).symm
  · rw [step_eq_refused hwf]
    exact iff_of_false nofun fun h => hwf h.1

/-- An engine step that runs a command is that command, then BUSY <- 0. -/
theorem step_of_executes {s : State} {i : Instr} (hwf : s.cfg.wf) (hx : s.executes i) :
    step s = finish (exec i s.advance) := by
  obtain ⟨he, hb, hi⟩ := hx
  rw [step_of_nextEvent hwf he]
  exact engineExec_of_decode hb hi

/-- Settles O8: the engine's rule, in the state whose bookkeeping has moved on. -/
theorem stepRunsThePendingCommand : Obligations.StepRunsThePendingCommand := fun _ _ => step_of_executes

/-- Settles O51: NOP hands its state on, and the engine clears BUSY after it. -/
theorem nopOnlyLetsBusyFall : Obligations.NopOnlyLetsBusyFall :=
  ⟨fun _ => rfl, fun _ => step_of_executes⟩

/-! The issue of a command (44_control.md R180; 60_exceptions.md R202, R203). -/

/-- A recorded error as one record update: the first code is kept (60_exceptions.md R202). -/
theorem State.raiseError_eq (s : State) (code : BitVec 4) :
    s.raiseError code = { s with err := true, errcode := if s.err = true then s.errcode else code } := by
  unfold State.raiseError
  split
  · next h => rw [← h]
  · rfl

theorem issue_of_busy {s : State} (w : Word) (hb : s.busy = true) : issue w s = s.raiseError errBusy := if_pos hb

theorem issue_of_illegal {s : State} {w : Word} (hb : s.busy = false) (hl : legal s.cfg w = false) :
    issue w s = s.raiseError errIllegal := by
  simp [issue, hb, hl]

theorem issue_of_notReady {s : State} {w : Word} (hb : s.busy = false) (hl : legal s.cfg w = true)
    (hn : needsReady (fieldOp w) = true) (hr : s.ready = false) : issue w s = s.raiseError errNotReady := by
  simp [issue, hb, hl, hn, hr]

theorem issue_of_accepted {s : State} {w : Word} (hb : s.busy = false) (hl : legal s.cfg w = true)
    (hn : needsReady (fieldOp w) = true → s.ready = true) : issue w s = s.setPending w := by
  have hready : (needsReady (fieldOp w) && !s.ready) = false := by simpa using hn
  simp [issue, hb, hl, hready]

/-- Settles O55: each premise picks one branch of `issue`. -/
theorem issueChecksInOrder : Obligations.IssueChecksInOrder := by
  intro s w hwf hw
  simp only [step_of_writes hwf hw, writeReg, Host.Outcome.next.injEq]
  refine ⟨fun hb => ?_, fun hb hl => ?_, fun hb hl hn hr => ?_, issue_of_accepted (s := s.advance)⟩
  · exact (issue_of_busy (s := s.advance) w hb).trans (State.raiseError_eq _ _)
  · exact (issue_of_illegal (s := s.advance) hb hl).trans (State.raiseError_eq _ _)
  · exact (issue_of_notReady (s := s.advance) hb hl hn hr).trans (State.raiseError_eq _ _)

/-- The encoding of a command with its operands in range is legal (30_encoding.md R85). -/
theorem legal_encode {cfg : Config} {i : Instr} (h : i.wf cfg = true) : legal cfg (encode i) = true := by
  rw [legal_eq_isOk_decode, decode_encode h]
  rfl

/-- A host's write of a command while BUSY = 0, with READY = 1 if it needs it, makes the command pending. -/
theorem step_cmdEvent {s : State} {i : Instr} (hwf : s.cfg.wf) (hi : i.wf s.cfg = true) (hb : s.busy = false)
    (hn : needsReady i.op = true → s.ready = true) (he : s.nextEvent = cmdEvent i) :
    step s = .next (s.advance.setPending (encode i)) := by
  have hop := op_eq_fieldOp_of_decode (decode_encode hi)
  rw [step_of_writes (r := .cmd) hwf ⟨0x010, he, rfl⟩]
  exact congrArg _ (issue_of_accepted (s := s.advance) hb (legal_encode hi) (hop ▸ hn))

/-- A step that makes a command pending, and then EXEC: the command runs on the state before them, which has moved on by
the bookkeeping of two steps (44_control.md R181). -/
theorem runSteps_two_of_pending {s : State} {e : Event} {rest : List Event} {i : Instr} (hwf : s.cfg.wf)
    (hi : i.wf s.cfg = true) (hagenda : s.agenda = e :: .exec :: rest)
    (hstep : step s = .next (s.advance.setPending (encode i))) :
    runSteps 2 s = finish (exec i { s with
      pcmd := encode i, busy := true, agenda := rest, tick := s.tick + 2, emits := [] }) := by
  have hx : (s.advance.setPending (encode i)).executes i := by
    refine ⟨?_, rfl, decode_encode hi⟩
    simp [State.nextEvent, hagenda]
  have hstate : (s.advance.setPending (encode i)).advance = { s with
      pcmd := encode i, busy := true, agenda := rest, tick := s.tick + 2, emits := [] } := by
    simp [State.advance, State.setPending, hagenda]
  rw [runSteps_succ_of_step hstep, runSteps, step_of_executes (s := s.advance.setPending (encode i)) hwf hx, hstate]
  cases finish _ <;> rfl

/-- Settles O9: the write makes the command pending, and EXEC runs it. -/
theorem issuedCommandRunsAtExec : Obligations.IssuedCommandRunsAtExec := by
  intro s i rest hwf hi hb hn hagenda
  have he : s.nextEvent = cmdEvent i := by rw [State.nextEvent, hagenda]
  exact runSteps_two_of_pending hwf hi hagenda (step_cmdEvent hwf hi hb hn he)

/-- The word that AUTOISSUE makes pending is that of FRAME (44_control.md R184). -/
theorem encode_frame : encode .frame = autoWord := rfl

/-- AUTOISSUE while AUTO = 1, BUSY = 0 and READY = 1 makes FRAME pending (44_control.md R184). -/
theorem step_autoIssue {s : State} (hwf : s.cfg.wf) (he : s.nextEvent = .autoIssue) (ha : s.auto = true)
    (hb : s.busy = false) (hr : s.ready = true) : step s = .next (s.advance.setPending (encode .frame)) := by
  have hon : s.advance.autoEnabled = true := by simp [State.autoEnabled, ha, hb, hr]
  rw [step_of_nextEvent hwf he, encode_frame]
  exact congrArg _ (if_pos hon)

/-- Settles O54: AUTOISSUE is enabled by just these premises, and EXEC runs the FRAME that it issues. -/
theorem autoIssueRunsFrame : Obligations.AutoIssueRunsFrame := by
  refine fun s hwf ha hb hr => ⟨fun he => step_autoIssue hwf he ha hb hr, fun rest hagenda => ?_⟩
  have he : s.nextEvent = .autoIssue := by rw [State.nextEvent, hagenda]
  exact runSteps_two_of_pending hwf rfl hagenda (step_autoIssue hwf he ha hb hr)

/-! FRAME (44_control.md R183). -/

theorem State.powerAt_of_power_eq {s t : State} (h : t.power = s.power) (k : Nat) : t.powerAt k = s.powerAt k := by
  rw [State.powerAt, State.powerAt, h]

theorem State.bucketAt_of_bucket_eq {s t : State} (h : t.bucket = s.bucket) (b : Nat) :
    t.bucketAt b = s.bucketAt b := by
  rw [State.bucketAt, State.bucketAt, h]

/-- Settles O52: the engine's statement on the spectrum, the comparator on the new buckets, and the transition of each
channel on the new ACTIVE; the release touches none of the results. -/
theorem frameProcessesOneFrame : Obligations.FrameProcessesOneFrame := by
  intro s hwf hf
  obtain ⟨_, hdft, -, -, -, hpower, hbucket, hresidual⟩ := dftComputesTheSpectrumAndFolds s hwf hf
  cases hdft
  have hp := State.powerAt_of_power_eq (s := s.dftAll) (t := s.dftAll.mapAll.hystAll.release) rfl
  have hb := State.bucketAt_of_bucket_eq (s := s.dftAll) (t := s.dftAll.mapAll.hystAll.release) rfl
  have hshape : s.dftAll.mapAll.hystAll.release.shape := by simp [State.shape]
  refine ⟨_, rfl, rfl, hshape, ?_⟩
  simp only [hp, hb]
  refine ⟨hpower, hbucket, hresidual, fun c hc => ⟨?_, ?_⟩⟩
  · have ha : s.dftAll.mapAll.hystAll.release.activeAt c = s.dftAll.comparator c := s.dftAll.activeAt_mapAll hc
    rw [ha]
    exact s.dftAll.comparator_eq_true_iff c
  · exact Prod.ext (s.dftAll.mapAll.hcntAt_hystAll hc) (s.dftAll.mapAll.outAt_hystAll hc)

end Sys2Proof.Machine
end

section
/-! PROOFS. Internal steps and quiescence: each enabled one lowers the internal work, and a fair run that the host, the
ADC and reset leave alone comes to a state that enables none (44_control.md R188; 00_scope.md R14). -/

namespace Sys2Proof.Machine

/-! The internal work: four per stage of the handoff, and what the engine still owes, which is at most three. -/

/-- The part of the internal work that the engine owes. -/
def State.engineWork (s : State) : Nat :=
  bif s.busy then (bif releases s.pcmd then 1 else 3) else bif s.auto && s.ready then 2 else 0

theorem State.internalWork_eq (s : State) : s.internalWork = 4 * s.handoffStage + s.engineWork := rfl

theorem State.engineWork_le (s : State) : s.engineWork ≤ 3 := by
  unfold State.engineWork
  cases s.busy <;> cases releases s.pcmd <;> cases s.auto && s.ready <;> decide

/-- An idle engine owes at most the FRAME that AUTOISSUE will issue. -/
theorem State.engineWork_of_idle {s : State} (hb : s.busy = false) : s.engineWork ≤ 2 := by
  rw [State.engineWork, hb, cond_false]
  cases s.auto && s.ready <;> decide

/-- A step of the handoff to a lower stage lowers the work, whatever the engine owes before and after. -/
theorem State.internalWork_lt_of_stage {s t : State} (h : t.handoffStage < s.handoffStage) :
    t.internalWork < s.internalWork := by
  have ht := t.engineWork_le
  rw [State.internalWork_eq, State.internalWork_eq]
  omega

/-- At one stage of the handoff, a step of the engine lowers the work if it lowers what the engine owes. -/
theorem State.internalWork_lt_of_engine {s t : State} (hstage : t.handoffStage = s.handoffStage)
    (h : t.engineWork < s.engineWork) : t.internalWork < s.internalWork := by
  rw [State.internalWork_eq, State.internalWork_eq, hstage]
  exact Nat.add_lt_add_left h _

/-- The stage of the handoff is a matter of its four fields. -/
theorem State.handoffStage_of_eq {s t : State} (hcfg : t.cfg = s.cfg) (hc : t.count = s.count)
    (hr : t.ready = s.ready) (hq : t.relReq = s.relReq) : t.handoffStage = s.handoffStage := by
  rw [State.handoffStage, State.handoffStage, hcfg, hc, hr, hq]

/-- A ready frame is at stage 2 (10_state.md R37). -/
theorem State.handoffStage_of_ready {s : State} (hr : s.ready = true) (hq : s.relReq = false) :
    s.handoffStage = 2 := by
  rw [State.handoffStage, hq, hr]
  rfl

/-- A frame that waits for its release is at stage 1. -/
theorem State.handoffStage_of_relReq {s : State} (hq : s.relReq = true) : s.handoffStage = 1 := by
  rw [State.handoffStage, hq]
  rfl

/-! Each enabled internal step lowers the work (44_control.md R188). -/

/-- When AUTOISSUE is enabled (44_control.md R184). -/
theorem State.autoEnabled_iff {s : State} :
    s.autoEnabled = true ↔ s.auto = true ∧ s.busy = false ∧ s.ready = true := by
  simp [State.autoEnabled, and_assoc]

/-- SYNC_A2C takes a full frame from stage 3 to stage 2. -/
theorem step_syncA2C_lowers_work {s : State} (hwf : s.cfg.wf) (he : s.nextEvent = .syncA2C)
    (hon : s.a2cEnabled = true) : ∃ t, step s = .next t ∧ t.internalWork < s.internalWork := by
  obtain ⟨hc, hq, hr⟩ := State.a2cEnabled_iff.1 hon
  have hstage : s.handoffStage = 3 := by simp [State.handoffStage, hc, hq, hr]
  have hready : s.advance.raiseReady.handoffStage = 2 := State.handoffStage_of_ready rfl hq
  refine ⟨_, (synchronizerStepsMoveTheHandoff s hwf).1 he hc hq hr, State.internalWork_lt_of_stage ?_⟩
  exact (hready.trans_lt (Nat.lt_succ_self 2)).trans_eq hstage.symm

/-- SYNC_C2A takes a released frame from stage 1 to stage 0, as N is not 0. -/
theorem step_syncC2A_lowers_work {s : State} (hwf : s.cfg.wf) (hh : s.handoff) (he : s.nextEvent = .syncC2A)
    (hq : s.relReq = true) : ∃ t, step s = .next t ∧ t.internalWork < s.internalWork := by
  obtain ⟨-, -, hrel, -⟩ := hh
  obtain ⟨-, hr⟩ := hrel hq
  have hn := Config.four_le_n_of_wf hwf
  refine ⟨_, (synchronizerStepsMoveTheHandoff s hwf).2 he hq, State.internalWork_lt_of_stage ?_⟩
  have hzero : (0 == s.cfg.n) = false := by simp; omega
  rw [State.handoffStage_of_relReq hq]
  simp [State.handoffStage, hr, hzero]

/-- AUTOISSUE turns the FRAME that is owed to the engine into a pending one. -/
theorem step_autoIssue_lowers_work {s : State} (hwf : s.cfg.wf) (he : s.nextEvent = .autoIssue)
    (hon : s.autoEnabled = true) : ∃ t, step s = .next t ∧ t.internalWork < s.internalWork := by
  obtain ⟨ha, hb, hr⟩ := State.autoEnabled_iff.1 hon
  have howed : s.engineWork = 2 := by simp [State.engineWork, ha, hb, hr]
  have hpending : (s.advance.setPending (encode .frame)).engineWork = 1 := by
    simp [State.engineWork, releases, encode, Instr.op]
  refine ⟨_, step_autoIssue hwf he ha hb hr, State.internalWork_lt_of_engine rfl ?_⟩
  rw [howed, hpending]
  exact Nat.one_lt_two

/-- The pending word that releases the frame is that of REL or FRAME (40_acquisition.md R105). -/
theorem releases_iff_of_decode {cfg : Config} {w : Word} {i : Instr} (h : decode cfg w = .ok i) :
    releases w = true ↔ i = .rel ∨ i = .frame := by
  rw [releases, decide_eq_true_iff, ← op_eq_fieldOp_of_decode h]
  cases i <;> simp [Instr.op]

/-- EXEC lowers the work: REL and FRAME take a ready frame from stage 2 to stage 1, and any other command leaves the
engine owing less. -/
theorem step_exec_lowers_work {s : State} (hwf : s.cfg.wf) (hh : s.handoff) (hp : s.pendingOk)
    (he : s.nextEvent = .exec) (hb : s.busy = true) : ∃ t, step s = .next t ∧ t.internalWork < s.internalWork := by
  obtain ⟨hlegal, -⟩ := hp hb
  obtain ⟨i, hi, hiwf⟩ := decode_of_legal hlegal
  have hx : s.executes i := ⟨he, hb, hi⟩
  obtain ⟨u, hu⟩ := exec_of_wf (s := s.advance) hiwf
  have hstep : step s = .next u.setIdle := by rw [step_of_executes hwf hx, hu]; rfl
  refine ⟨_, hstep, ?_⟩
  by_cases hrel : i = .rel ∨ i = .frame
  · have hr := State.ready_of_pending_release hp hx hrel
    obtain ⟨-, hfull, -⟩ := hh
    have hq' : u.setIdle.relReq = true := by rcases hrel with rfl | rfl <;> cases hu <;> rfl
    apply State.internalWork_lt_of_stage
    rw [State.handoffStage_of_relReq hq', State.handoffStage_of_ready hr (hfull hr).2]
    exact Nat.one_lt_two
  · obtain ⟨hr, hq⟩ := (exec_next_handoff hu).resolve_right fun h => hrel h.1
    have hnone : releases s.pcmd = false := Bool.eq_false_iff.2 fun h => hrel ((releases_iff_of_decode hi).1 h)
    have howed : s.engineWork = 3 := by simp [State.engineWork, hb, hnone]
    refine State.internalWork_lt_of_engine ?_ (howed ▸ Nat.lt_succ_of_le (State.engineWork_of_idle rfl))
    obtain ⟨-, hc, -⟩ := exec_next_keeps hu
    exact (State.handoffStage_of_eq (exec_next_cfg hu) hc hr hq :)

/-- Every enabled internal step gives a next state with less work. -/
theorem step_internal_lowers_work {s : State} (hinv : s.Inv) (hon : s.internalEnabled s.nextEvent = true) :
    ∃ t, step s = .next t ∧ t.internalWork < s.internalWork := by
  obtain ⟨hwf, -, -, -, hh, -, -, hp, -⟩ := hinv
  cases he : s.nextEvent with
  | syncA2C => rw [he] at hon; exact step_syncA2C_lowers_work hwf he hon
  | syncC2A => rw [he] at hon; exact step_syncC2A_lowers_work hwf hh he hon
  | exec => rw [he] at hon; exact step_exec_lowers_work hwf hh hp he hon
  | autoIssue => rw [he] at hon; exact step_autoIssue_lowers_work hwf he hon
  | busRead _ | busWrite _ _ | sample _ | reset => rw [he] at hon; cases hon

/-! Quiescence (44_control.md R188). -/

/-- The formula of R188 says of the four internal steps that none is enabled. -/
theorem State.quiescent_iff (s : State) : s.quiescent ↔ ∀ e, s.internalEnabled e = false := by
  have ha2c := Bool.eq_false_iff.trans (not_congr s.a2cEnabled_iff)
  have hauto := Bool.eq_false_iff.trans (not_congr s.autoEnabled_iff)
  constructor
  · rintro ⟨hb, hfull, hq, hissue⟩ e
    cases e with
    | syncA2C => exact ha2c.2 hfull
    | syncC2A => exact hq
    | exec => exact hb
    | autoIssue => exact hauto.2 fun ⟨ha, _, hr⟩ => hissue ⟨ha, hr⟩
    | _ => rfl
  · intro h
    exact ⟨h .exec, ha2c.1 (h .syncA2C), h .syncC2A, fun ⟨ha, hr⟩ => hauto.1 (h .autoIssue) ⟨ha, h .exec, hr⟩⟩

/-- A bus read, and an internal step that is not enabled, change none of the spec's components. -/
theorem step_keeps_architectural {s t : State} (hsample : ∀ data, s.nextEvent ≠ .sample data)
    (hwrite : ∀ addr d, s.nextEvent ≠ .busWrite addr d) (hreset : s.nextEvent ≠ .reset)
    (hoff : s.internalEnabled s.nextEvent = false) (h : step s = .next t) : t.architectural = s.architectural := by
  have hwf := (step_next_iff.1 h).1
  have stays (hint : s.nextEvent = .syncA2C ∨ s.nextEvent = .syncC2A ∨ s.nextEvent = .exec ∨ s.nextEvent = .autoIssue) :
      t.architectural = s.architectural := by
    have ht := Host.Outcome.next.inj (h.symm.trans (disabledInternalStepChangesNothing s hwf hint hoff))
    rw [ht]
    rfl
  cases he : s.nextEvent with
  | busRead addr =>
    obtain ⟨u, hu, harch, -⟩ := busReadChangesNoState s addr hwf he
    rw [Host.Outcome.next.inj (h.symm.trans hu), harch]
  | busWrite addr d => exact absurd he (hwrite addr d)
  | sample data => exact absurd he (hsample data)
  | reset => exact absurd he hreset
  | syncA2C => exact stays (by simp [he])
  | syncC2A => exact stays (by simp [he])
  | exec => exact stays (by simp [he])
  | autoIssue => exact stays (by simp [he])

/-- The invariant holds all along a run from a state that meets it. -/
theorem IsRun.inv {σ : Nat → Event} {ρ : Nat → State} (hrun : IsRun σ ρ) {k j : Nat} (hj : k ≤ j) (hk : (ρ k).Inv) :
    (ρ j).Inv := by
  induction j, hj using Nat.le_induction with
  | base => exact hk
  | succ j _ ih => exact everyStepKeepsTheInvariant ((ρ j).withAgenda [σ j]) _ ih (hrun j)

section
variable {σ : Nat → Event} {ρ : Nat → State} {k : Nat} (hrun : IsRun σ ρ) (hfair : WeaklyFair σ ρ)
  (halone : ∀ j, k ≤ j → σ j ≠ .reset ∧ (∀ data, σ j ≠ .sample data) ∧ ∀ addr d, σ j ≠ .busWrite addr d)
include hrun hfair halone

/-- Left alone, a state that enables an internal step stays as it is until an enabled one is taken, which weak fairness
brings. -/
theorem IsRun.enabled_step_comes {e : Event} (hon : (ρ k).internalEnabled e = true) :
    ∃ j, k ≤ j ∧ (ρ j).architectural = (ρ k).architectural ∧ (ρ j).internalEnabled (σ j) = true := by
  have hkeep (j : Nat) (hj : k ≤ j) (hsame : (ρ j).architectural = (ρ k).architectural)
      (hoff : ¬(ρ j).internalEnabled (σ j) = true) : (ρ (j + 1)).architectural = (ρ k).architectural := by
    obtain ⟨hreset, hsample, hwrite⟩ := halone j hj
    have hstay := step_keeps_architectural (s := (ρ j).withAgenda [σ j]) hsample hwrite hreset
      (Bool.eq_false_iff.2 hoff) (hrun j)
    exact hstay.trans hsame
  refine (meets_or_holds_forever (P := fun j => (ρ j).architectural = (ρ k).architectural) rfl hkeep).elim id
    fun hforever => ?_
  have hstays (j : Nat) (hj : k ≤ j) : (ρ j).internalEnabled e = true :=
    (State.internalEnabled_of_architectural (hforever j hj) e).trans hon
  obtain ⟨j, hj, rfl⟩ := hfair e k hstays
  exact ⟨j, hj, hforever j hj, hstays j hj⟩

/-- Left alone, a fair run of good states becomes quiescent, by induction on the internal work. -/
theorem IsRun.becomes_quiescent (hinv : (ρ k).Inv) : ∃ j, k ≤ j ∧ (ρ j).quiescent := by
  induction hw : (ρ k).internalWork using Nat.strong_induction_on generalizing k with
  | _ w ih =>
    by_cases hquiet : (ρ k).quiescent
    · exact ⟨k, le_rfl, hquiet⟩
    obtain ⟨e, he⟩ := not_forall.1 (mt (State.quiescent_iff (ρ k)).2 hquiet)
    obtain ⟨j, hj, hsame, hon⟩ := hrun.enabled_step_comes hfair halone (Bool.ne_false_iff.1 he)
    obtain ⟨t, ht, hlt⟩ := step_internal_lowers_work (s := (ρ j).withAgenda [σ j]) (hrun.inv hj hinv) hon
    have hless : (ρ (j + 1)).internalWork < w := by
      rw [Host.Outcome.next.inj ((hrun j).symm.trans ht), ← hw, ← State.internalWork_of_architectural hsame]
      exact hlt
    obtain ⟨i, hi, hquiet⟩ := ih _ hless (k := j + 1) (fun i hi => halone i (by omega)) (hrun.inv (by omega) hinv) rfl
    exact ⟨i, by omega, hquiet⟩

end

/-- Settles O19: the measure is the internal work, quiescence is the four guards being false, and weak fairness takes
the steps that the measure counts. -/
theorem internalStepsLeadToQuiescence : Obligations.InternalStepsLeadToQuiescence :=
  ⟨fun _ => step_internal_lowers_work, State.quiescent_iff,
    fun _ _ _ hrun hfair hinv halone => hrun.becomes_quiescent hfair halone hinv⟩

end Sys2Proof.Machine
end

section
/-! PROOFS. The host scripts of the main loop: the four commands and FRAME do the same to the frame in hand, on one
schedule and under every schedule that interleaves a script with the other agents (44_control.md R188, R190). -/

namespace Sys2Proof.Machine

/-! Commands one after the other, each finding READY = 1. They depend on, and are followed up to, all but the pending
command and the model's own fields. -/

/-- The state without BUSY, PCMD and the model's own fields. -/
def State.withoutCommand (s : State) : State := { s.architectural with busy := false, pcmd := 0 }

/-! The bookkeeping, an issue, the end of a command and a poll change nothing else. -/

@[simp] theorem State.withoutCommand_advance (s : State) : s.advance.withoutCommand = s.withoutCommand := rfl
@[simp] theorem State.withoutCommand_withAgenda (s : State) (es : List Event) :
    (s.withAgenda es).withoutCommand = s.withoutCommand := rfl
@[simp] theorem State.withoutCommand_setPending (s : State) (w : Word) :
    (s.setPending w).withoutCommand = s.withoutCommand := rfl
@[simp] theorem State.withoutCommand_setIdle (s : State) : s.setIdle.withoutCommand = s.withoutCommand := rfl
@[simp] theorem State.withoutCommand_emit (s : State) (e : Emit) : (s.emit e).withoutCommand = s.withoutCommand := rfl

@[simp] theorem State.withoutCommand_cfg (s : State) : s.withoutCommand.cfg = s.cfg := rfl
@[simp] theorem State.withoutCommand_ready (s : State) : s.withoutCommand.ready = s.ready := rfl
@[simp] theorem State.withoutCommand_relReq (s : State) : s.withoutCommand.relReq = s.relReq := rfl

theorem State.cfg_of_withoutCommand {s t : State} (h : s.withoutCommand = t.withoutCommand) : s.cfg = t.cfg := by
  rw [← s.withoutCommand_cfg, h, t.withoutCommand_cfg]

theorem State.ready_of_withoutCommand {s t : State} (h : s.withoutCommand = t.withoutCommand) : s.ready = t.ready := by
  rw [← s.withoutCommand_ready, h, t.withoutCommand_ready]

theorem State.relReq_of_withoutCommand {s t : State} (h : s.withoutCommand = t.withoutCommand) :
    s.relReq = t.relReq := by
  rw [← s.withoutCommand_relReq, h, t.withoutCommand_relReq]

/-- A state is its spec's components, of which BUSY and PCMD stand apart. -/
theorem State.architectural_of_withoutCommand {s t : State} (h : s.withoutCommand = t.withoutCommand)
    (hb : s.busy = t.busy) : s.architectural = { t.architectural with pcmd := s.pcmd } := by
  calc s.architectural = { s.withoutCommand with busy := s.busy, pcmd := s.pcmd } := rfl
    _ = { t.withoutCommand with busy := t.busy, pcmd := s.pcmd } := by rw [h, hb]
    _ = { t.architectural with pcmd := s.pcmd } := rfl

/-- An operation that neither reads BUSY, PCMD and the model's own fields nor lets them reach another component. -/
def IgnoresCommand (f : State → State) : Prop := ∀ s, (f s).withoutCommand = (f s.withoutCommand).withoutCommand

theorem IgnoresCommand.eq {f : State → State} (hf : IgnoresCommand f) {s t : State}
    (h : s.withoutCommand = t.withoutCommand) : (f s).withoutCommand = (f t).withoutCommand := by
  rw [hf s, h, ← hf t]

theorem ignoresCommand_release : IgnoresCommand State.release := fun _ => rfl

theorem ignoresCommand_dftAll : IgnoresCommand State.dftAll := fun _ => rfl

theorem ignoresCommand_dftBin (k : Nat) : IgnoresCommand (State.dftBin · k) := fun _ => rfl

theorem ignoresCommand_foldBuckets : IgnoresCommand State.foldBuckets := fun _ => rfl

theorem ignoresCommand_mapAll : IgnoresCommand State.mapAll := fun _ => rfl

theorem ignoresCommand_hystAll : IgnoresCommand State.hystAll := fun _ => rfl

theorem ignoresCommand_clearBank : IgnoresCommand State.clearBank := fun _ => rfl

theorem ignoresCommand_setActive (c : Nat) (v : Bool) : IgnoresCommand (State.setActive · c v) := fun _ => rfl

/-- A command does the same whatever BUSY, PCMD and the model's own fields are. -/
theorem exec_of_withoutCommand_eq {i : Instr} {x y x' : State} (h : x.withoutCommand = y.withoutCommand)
    (hx : exec i x = .next x') : ∃ y', exec i y = .next y' ∧ x'.withoutCommand = y'.withoutCommand := by
  have hcfg := State.cfg_of_withoutCommand h
  rcases exec_next_cases hx with ⟨rfl, rfl⟩ | ⟨rfl, rfl⟩ | ⟨rfl, rfl⟩ | ⟨k, rfl, hk, rfl⟩ | ⟨rfl, rfl⟩ | ⟨rfl, rfl⟩ |
    ⟨rfl, rfl⟩ | ⟨rfl, rfl⟩ | ⟨rfl, rfl⟩ | ⟨c, v, rfl, ⟨hc, hv⟩, rfl⟩
  · exact ⟨_, rfl, h⟩
  · exact ⟨_, rfl, ignoresCommand_release.eq h⟩
  · exact ⟨_, rfl, ignoresCommand_dftAll.eq h⟩
  · exact ⟨_, exec_dftb (hcfg ▸ hk), (ignoresCommand_dftBin k.toNat).eq h⟩
  · exact ⟨_, rfl, ignoresCommand_foldBuckets.eq h⟩
  · exact ⟨_, rfl, ignoresCommand_mapAll.eq h⟩
  · exact ⟨_, rfl, ignoresCommand_hystAll.eq h⟩
  · refine ⟨_, rfl, ignoresCommand_release.eq (ignoresCommand_hystAll.eq (ignoresCommand_mapAll.eq ?_))⟩
    exact ignoresCommand_dftAll.eq h
  · exact ⟨_, rfl, ignoresCommand_clearBank.eq h⟩
  · exact ⟨_, exec_seta (hcfg ▸ hc) hv, (ignoresCommand_setActive c.toNat _).eq h⟩

/-- A command that runs has its operands in range. -/
theorem wf_of_exec_next {i : Instr} {s t : State} (h : exec i s = .next t) : i.wf s.cfg = true := by
  cases i with
  | dftb k =>
    simp only [exec, execDftb] at h
    split at h
    · next hk => exact decide_eq_true hk
    · cases h
  | seta c v =>
    simp only [exec, execSeta] at h
    split at h
    · next hcv => exact decide_eq_true hcv
    · cases h
  | _ => rfl

/-- No command touches the schedule. -/
theorem exec_next_agenda {i : Instr} {s t : State} (h : exec i s = .next t) : t.agenda = s.agenda := by
  rcases exec_next_cases h with ⟨_, rfl⟩ | ⟨_, rfl⟩ | ⟨_, rfl⟩ | ⟨_, _, _, rfl⟩ | ⟨_, rfl⟩ | ⟨_, rfl⟩ | ⟨_, rfl⟩ |
    ⟨_, rfl⟩ | ⟨_, rfl⟩ | ⟨_, _, _, _, rfl⟩ <;> simp

/-- The commands lead from one state to another, up to the pending command, and each finds READY = 1. -/
def CommandsLead : List Instr → State → State → Prop
  | [], s, u => s.withoutCommand = u.withoutCommand
  | i :: is, s, u => s.ready = true ∧ ∃ t, exec i s = .next t ∧ CommandsLead is t u

/-- Where the commands lead does not depend on BUSY, PCMD and the model's own fields. -/
theorem CommandsLead.of_withoutCommand_eq {is : List Instr} {x y u : State} (h : CommandsLead is x u)
    (hxy : x.withoutCommand = y.withoutCommand) : CommandsLead is y u := by
  induction is generalizing x y with
  | nil => exact hxy.symm.trans h
  | cons i is ih =>
    obtain ⟨hr, x', hx, hlead⟩ := h
    obtain ⟨y', hy, hxy'⟩ := exec_of_withoutCommand_eq hxy hx
    exact ⟨(State.ready_of_withoutCommand hxy).symm.trans hr, y', hy, ih hlead hxy'⟩

/-- FRAME on a ready frame is one command. -/
theorem commandsLead_frame {s u : State} (hr : s.ready = true) (hu : exec .frame s = .next u) :
    CommandsLead [.frame] s u :=
  ⟨hr, u, hu, rfl⟩

/-- The four commands are the parts of FRAME, in its order (44_control.md R183, R190). -/
theorem commandsLead_fourCommands {s u : State} (hr : s.ready = true) (hu : exec .frame s = .next u) :
    CommandsLead [.dft, .map, .hyst, .rel] s u := by
  have hdft : s.dftAll.ready = true := s.dftAll_ready.trans hr
  have hmap : s.dftAll.mapAll.ready = true := s.dftAll.mapAll_ready.trans hdft
  have hhyst : s.dftAll.mapAll.hystAll.ready = true := s.dftAll.mapAll.hystAll_ready.trans hmap
  exact ⟨hr, s.dftAll, rfl, hdft, s.dftAll.mapAll, rfl, hmap, s.dftAll.mapAll.hystAll, rfl, hhyst, u, hu, rfl⟩

/-- FRAME releases the frame (44_control.md R183). -/
theorem exec_frame_releases {s u : State} (hu : exec .frame s = .next u) : u.ready = false ∧ u.relReq = true := by
  cases hu
  exact ⟨rfl, rfl⟩

/-- No command writes the configuration. -/
theorem CommandsLead.cfg_eq {is : List Instr} {s u : State} (h : CommandsLead is s u) : u.cfg = s.cfg := by
  induction is generalizing s with
  | nil => exact (State.cfg_of_withoutCommand h).symm
  | cons i is ih =>
    obtain ⟨-, t, ht, hlead⟩ := h
    exact (ih hlead).trans (exec_next_cfg ht)

/-- EXEC of a pending command ends where the command leads, with BUSY = 0. -/
theorem step_exec_of_pending {s u : State} {i : Instr} (hwf : s.cfg.wf) (he : s.nextEvent = .exec)
    (hb : s.busy = true) (hp : s.pcmd = encode i) (hu : exec i s = .next u) :
    ∃ t, step s = .next t ∧ t.withoutCommand = u.withoutCommand ∧ t.busy = false ∧ t.agenda = s.agenda.tail := by
  have hx : s.executes i := ⟨he, hb, hp ▸ decode_encode (wf_of_exec_next hu)⟩
  obtain ⟨v, hv, huv⟩ := exec_of_withoutCommand_eq (y := s.advance) s.withoutCommand_advance.symm hu
  have hstep : step s = .next v.setIdle := by rw [step_of_executes hwf hx, hv]; rfl
  exact ⟨_, hstep, huv.symm, rfl, exec_next_agenda hv⟩

/-! One schedule: for each command a poll, its issue and its EXEC (44_control.md R190). -/

/-- The events by which commands run one after the other, with one read for each poll. -/
def roundEvents (is : List Instr) : List Event := is.flatMap fun i => [pollStatus, cmdEvent i, .exec]

/-- A poll puts a word out and moves the bookkeeping. -/
theorem step_pollStatus {s : State} (hwf : s.cfg.wf) (he : s.nextEvent = pollStatus) :
    step s = .next (busRead 0x00C s.advance) :=
  step_of_nextEvent hwf he

/-- The state in which EXEC finds the command of a round: STATUS polled, and the command issued. -/
def State.polledAndIssued (s : State) (i : Instr) : State :=
  (busRead 0x00C s.advance).advance.setPending (encode i)

@[simp] theorem State.withoutCommand_polledAndIssued (s : State) (i : Instr) :
    (s.polledAndIssued i).withoutCommand = s.withoutCommand := by
  simp [State.polledAndIssued, busRead]

@[simp] theorem State.agenda_polledAndIssued (s : State) (i : Instr) :
    (s.polledAndIssued i).agenda = s.agenda.tail.tail := rfl

/-- The round of one command: polled, issued and run. -/
theorem runSteps_round {s u : State} {i : Instr} {es : List Event} (hwf : s.cfg.wf) (hb : s.busy = false)
    (hr : s.ready = true) (hu : exec i s = .next u)
    (hagenda : s.agenda = pollStatus :: cmdEvent i :: .exec :: es) :
    ∃ t, (∀ k, runSteps (k + 3) s = runSteps k t) ∧ t.withoutCommand = u.withoutCommand ∧ t.busy = false ∧
      t.agenda = es := by
  have hi := wf_of_exec_next hu
  have hpoll := step_pollStatus hwf (by rw [State.nextEvent, hagenda])
  have hissue : step (busRead 0x00C s.advance) = .next (s.polledAndIssued i) :=
    step_cmdEvent hwf hi hb (fun _ => hr) (by simp [State.nextEvent, busRead, hagenda])
  obtain ⟨v, hv, huv⟩ := exec_of_withoutCommand_eq (s.withoutCommand_polledAndIssued i).symm hu
  obtain ⟨t, hexec, ht, hbt, hagendat⟩ := step_exec_of_pending (s := s.polledAndIssued i) hwf
    (by simp [State.nextEvent, hagenda]) rfl rfl hv
  refine ⟨t, fun k => ?_, ht.trans huv.symm, hbt, by simpa [hagenda] using hagendat⟩
  rw [runSteps_succ_of_step hpoll, runSteps_succ_of_step hissue, runSteps_succ_of_step hexec]

/-- The rounds of commands lead where the commands do. -/
theorem runSteps_rounds {is : List Instr} {s u : State} {es : List Event} (hwf : s.cfg.wf) (hb : s.busy = false)
    (hlead : CommandsLead is s u) (hagenda : s.agenda = roundEvents is ++ es) :
    ∃ t, (∀ k, runSteps (k + 3 * is.length) s = runSteps k t) ∧ t.withoutCommand = u.withoutCommand ∧
      t.busy = false ∧ t.agenda = es := by
  induction is generalizing s with
  | nil => exact ⟨s, fun _ => rfl, hlead, hb, hagenda⟩
  | cons i is ih =>
    obtain ⟨hr, v, hv, hlead⟩ := hlead
    obtain ⟨w, hround, hw, hbw, hagendaw⟩ := runSteps_round hwf hb hr hv hagenda
    have hcfg : w.cfg = s.cfg := (State.cfg_of_withoutCommand hw).trans (exec_next_cfg hv)
    obtain ⟨t, hrounds, ht⟩ := ih (hcfg ▸ hwf) hbw (hlead.of_withoutCommand_eq hw.symm) hagendaw
    exact ⟨t, fun k => (hround (k + 3 * is.length)).trans (hrounds k), ht⟩

/-- A schedule of rounds and a last poll leads where the commands do. -/
theorem runSteps_script {is : List Instr} {s u : State} (hwf : s.cfg.wf) (hb : s.busy = false)
    (hlead : CommandsLead is s u) : ∃ t,
      runSteps (1 + 3 * is.length) (s.withAgenda (roundEvents is ++ [pollStatus])) = .next t ∧
      t.withoutCommand = u.withoutCommand ∧ t.busy = false := by
  obtain ⟨t, hrun, ht, hbt, hagenda⟩ := runSteps_rounds (s := s.withAgenda (roundEvents is ++ [pollStatus])) hwf hb
    (hlead.of_withoutCommand_eq (s.withoutCommand_withAgenda _).symm) rfl
  have hcfg : t.cfg = s.cfg := (State.cfg_of_withoutCommand ht).trans hlead.cfg_eq
  have hpoll := step_pollStatus (s := t) (hcfg ▸ hwf) (by rw [State.nextEvent, hagenda])
  exact ⟨_, (hrun 1).trans (runSteps_succ_of_step hpoll 0), by simpa [busRead] using ht, hbt⟩

/-! Every schedule of a script (44_control.md R188): a script that waits, and then issues its commands one by one and
waits for each. -/

/-- The operations of the main loop after WAITREADY: each command issued, and WAITIDLE. -/
def loopOps (is : List Instr) : List HostOp := is.flatMap fun i => [cmdOp i, waitIdleOp]

/-- The results, and the error record. -/
def State.results (s : State) : List Word × List Word × List Bool × List Byte × List Bool × Bool × BitVec 4 :=
  (s.power, s.bucket, s.active, s.hcnt, s.out, s.err, s.errcode)

@[simp] theorem State.results_withoutCommand (s : State) : s.withoutCommand.results = s.results := rfl

theorem State.results_of_withoutCommand {s t : State} (h : s.withoutCommand = t.withoutCommand) :
    s.results = t.results := by
  rw [← s.results_withoutCommand, h, t.results_withoutCommand]

/-- The commands lead to the results of `u`. The frame and the handoff may go on once they have run. -/
def LeadsToResults (is : List Instr) (s u : State) : Prop := ∃ v, CommandsLead is s v ∧ v.results = u.results

theorem LeadsToResults.of_withoutCommand_eq {is : List Instr} {x y u : State} (h : LeadsToResults is x u)
    (hxy : x.withoutCommand = y.withoutCommand) : LeadsToResults is y u := by
  obtain ⟨v, hlead, hv⟩ := h
  exact ⟨v, hlead.of_withoutCommand_eq hxy, hv⟩

theorem LeadsToResults.results_eq {s u : State} (h : LeadsToResults [] s u) : s.results = u.results := by
  obtain ⟨v, hlead, hv⟩ := h
  exact (State.results_of_withoutCommand hlead).trans hv

theorem LeadsToResults.ready {i : Instr} {is : List Instr} {s u : State} (h : LeadsToResults (i :: is) s u) :
    s.ready = true := by
  obtain ⟨_, ⟨hr, -⟩, -⟩ := h
  exact hr

/-- The steps that neither issue nor run a command nor write a register: reads, samples and the synchronizer's. -/
def passive : Event → Bool
  | .busRead _ => true
  | .sample _ => true
  | .syncA2C => true
  | .syncC2A => true
  | .busWrite _ _ => false
  | .exec => false
  | .autoIssue => false
  | .reset => false

theorem not_writes_of_passive {s : State} (hp : passive s.nextEvent = true) (r : Reg) (d : Word) : ¬s.writes r d := by
  rintro ⟨addr, he, -⟩
  rw [he] at hp
  cases hp

theorem ne_of_passive {e e' : Event} (hp : passive e = true) (hp' : passive e' = false) : e ≠ e' := by
  rintro rfl
  rw [hp] at hp'
  cases hp'

/-- A passive step leaves the pending command, the control bits and the results alone. -/
theorem step_passive_keeps {s t : State} (hp : passive s.nextEvent = true) (h : step s = .next t) :
    t.busy = s.busy ∧ t.pcmd = s.pcmd ∧ (t.acqEn = s.acqEn ∧ t.auto = s.auto) ∧ t.results = s.results := by
  have hwrites := not_writes_of_passive hp
  obtain ⟨-, hcommand, herror, hctrl, hresults⟩ := step_changes h (ne_of_passive hp rfl)
  have hcommand : t.busy = s.busy ∧ t.pcmd = s.pcmd := by
    cases hcommand with
    | same hb hpc => exact ⟨hb, hpc⟩
    | issued he => exact (he.elim (hwrites _ _) (ne_of_passive hp rfl)).elim
    | finished he => exact absurd he (ne_of_passive hp rfl)
  have herror : t.err = s.err ∧ t.errcode = s.errcode := by
    cases herror with
    | same he hc => exact ⟨he, hc⟩
    | cleared hw => exact absurd hw (hwrites _ _)
    | recorded hw => exact absurd hw (hwrites _ _)
  have hctrl : t.acqEn = s.acqEn ∧ t.auto = s.auto := by
    cases hctrl with
    | same ha hu => exact ⟨ha, hu⟩
    | written hw => exact absurd hw (hwrites _ _)
  refine ⟨hcommand.1, hcommand.2, hctrl, ?_⟩
  cases hresults with
  | same hpow hbk hact hh ho => rw [State.results, hpow, hbk, hact, hh, ho, herror.1, herror.2]; rfl
  | computed hx => exact absurd hx.1 (ne_of_passive hp rfl)

/-- While READY = 1 a passive step changes at most the pending command: the frame holds still, no release waits, and
SYNC_A2C has nothing to raise (40_acquisition.md R107). -/
theorem step_passive_of_ready {s t : State} (hh : s.handoff) (hr : s.ready = true) (hp : passive s.nextEvent = true)
    (h : step s = .next t) : t.withoutCommand = s.withoutCommand := by
  have hreset := ne_of_passive (e' := .reset) hp rfl
  obtain ⟨-, -, ⟨ha, hu⟩, hres⟩ := step_passive_keeps hp h
  obtain ⟨hf, hc⟩ := frameHoldsStillWhileReady s t hh hr hreset h
  have hflags : t.ready = s.ready ∧ t.relReq = s.relReq := by
    obtain ⟨-, hfull, -⟩ := hh
    cases (step_changes h hreset).handoff with
    | same _ _ hr' hq' => exact ⟨hr', hq'⟩
    | stored _ _ _ _ _ hr' hq' => exact ⟨hr', hq'⟩
    | raised _ _ _ _ _ hr' hq' => exact ⟨hr'.trans hr.symm, hq'⟩
    | restarted _ hq => rw [(hfull hr).2] at hq; cases hq
    | released hx => exact absurd hx.1 (ne_of_passive hp rfl)
  simp only [State.results, Prod.mk.injEq] at hres
  obtain ⟨hpow, hbk, hact, hhc, ho, he, hec⟩ := hres
  simp only [State.withoutCommand, State.architectural, noStepWritesTheConfiguration s t h, hf, hc, hflags, ha, hu,
    hpow, hbk, hact, hhc, ho, he, hec]

/-- A passive step takes nothing from what the commands will lead to. -/
theorem LeadsToResults.of_passive {is : List Instr} {s t u : State} (hlead : LeadsToResults is s u) (hh : s.handoff)
    (hp : passive s.nextEvent = true) (h : step s = .next t) : LeadsToResults is t u := by
  cases is with
  | nil =>
    obtain ⟨-, -, -, hres⟩ := step_passive_keeps hp h
    exact ⟨t, rfl, hres.trans hlead.results_eq⟩
  | cons i is => exact hlead.of_withoutCommand_eq (step_passive_of_ready hh hlead.ready hp h).symm

/-- Where a script is: what is left of it, and the commands that are still to run, the pending one first. They lead to
the results of `u`. -/
inductive ScriptAt (u : State) : List HostOp → State → Prop
  | issues {is : List Instr} {s : State} (hb : s.busy = false) (hlead : LeadsToResults is s u) :
      ScriptAt u (loopOps is) s
  | polls {is : List Instr} {s : State} (a : Addr) (m v : Word) (hb : s.busy = false) (hlead : LeadsToResults is s u) :
      ScriptAt u (.poll a m v :: loopOps is) s
  | waits {i : Instr} {is : List Instr} {s : State} (hb : s.busy = true) (hp : s.pcmd = encode i)
      (hlead : LeadsToResults (i :: is) s u) : ScriptAt u (waitIdleOp :: loopOps is) s

theorem ScriptAt.withAgenda {u s : State} {ops : List HostOp} (h : ScriptAt u ops s) (es : List Event) :
    ScriptAt u ops (s.withAgenda es) := by
  cases h with
  | issues hb hlead => exact .issues hb (hlead.of_withoutCommand_eq (s.withoutCommand_withAgenda es).symm)
  | polls a m v hb hlead => exact .polls a m v hb (hlead.of_withoutCommand_eq (s.withoutCommand_withAgenda es).symm)
  | waits hb hp hlead => exact .waits hb hp (hlead.of_withoutCommand_eq (s.withoutCommand_withAgenda es).symm)

/-- A passive step leaves a script where it is. -/
theorem ScriptAt.of_passive {u s t : State} {ops : List HostOp} (hat : ScriptAt u ops s) (hh : s.handoff)
    (hp : passive s.nextEvent = true) (h : step s = .next t) : ScriptAt u ops t := by
  obtain ⟨hb', hpc', -⟩ := step_passive_keeps hp h
  cases hat with
  | issues hb hlead => exact .issues (hb'.trans hb) (hlead.of_passive hh hp h)
  | polls a m v hb hlead => exact .polls a m v (hb'.trans hb) (hlead.of_passive hh hp h)
  | waits hb hpc hlead => exact .waits (hb'.trans hb) (hpc'.trans hpc) (hlead.of_passive hh hp h)

/-- WAITIDLE does not end while BUSY = 1: bit 1 of STATUS is set (20_memory.md R58; 30_encoding.md R91). -/
theorem busy_eq_false_of_idleSeen {s : State} {d : Word} (h : idleSeen (s.statusWord d) = true) : s.busy = false := by
  have hmask : s.statusWord d &&& 0x2 = 0x0 := of_decide_eq_true h
  have hbit : (s.statusWord d &&& 0x2).getLsbD 1 = false := by rw [hmask]; rfl
  rw [BitVec.getLsbD_and, State.getLsbD_statusWord] at hbit
  simpa using hbit

/-- A read of STATUS that ends WAITIDLE finds BUSY = 0. -/
theorem busy_eq_false_of_ends {s t : State} (hwf : s.cfg.wf) (he : s.nextEvent = waitIdleOp.event)
    (h : step s = .next t) (hends : waitIdleOp.ends t.emits = true) : s.busy = false := by
  obtain ⟨_, ht, -, d, hemits⟩ := busReadChangesNoState s 0x00C hwf he
  rw [Host.Outcome.next.inj (h.symm.trans ht), hemits] at hends
  have hseen : idleSeen (s.readAt d 0x00C) = true := by
    simpa [waitIdleOp, HostOp.ends, Emit.endsPoll, idleSeen] using hends
  exact busy_eq_false_of_idleSeen (d := d) hseen

/-- A poll's read moves the script on only where no command is pending. -/
theorem ScriptAt.of_busRead {u s t : State} {ops : List HostOp} {addr : Addr} (hat : ScriptAt u ops s) (hh : s.handoff)
    (hhead : ops.head?.map HostOp.event = some (.busRead addr)) (he : s.nextEvent = .busRead addr)
    (h : step s = .next t) : ScriptAt u (dropEnded t ops) t := by
  have hp : passive s.nextEvent = true := by rw [he]; rfl
  have hat' := hat.of_passive hh hp h
  obtain ⟨hb', -⟩ := step_passive_keeps hp h
  cases hat with
  | @issues is _ hb hlead => cases is <;> simp [loopOps, cmdOp, HostOp.event] at hhead
  | @polls is _ a m v hb hlead =>
    rcases dropEnded_cases t (.poll a m v) (loopOps is) with ⟨-, hdrop⟩ | ⟨-, hdrop⟩ <;> rw [hdrop]
    · exact .issues (hb'.trans hb) (hlead.of_passive hh hp h)
    · exact hat'
  | @waits i is _ hb hpc hlead =>
    rcases dropEnded_cases t waitIdleOp (loopOps is) with ⟨hends, hdrop⟩ | ⟨-, hdrop⟩
    · have hidle := busy_eq_false_of_ends (step_next_iff.1 h).1 (he.trans (Option.some.inj hhead).symm) h hends
      rw [hb] at hidle
      cases hidle
    · rw [hdrop]; exact hat'

/-- A write is the issue of the script's next command, which finds BUSY = 0 and READY = 1 and becomes pending. -/
theorem ScriptAt.of_busWrite {u s t : State} {ops : List HostOp} {addr : Addr} {d : Word} (hat : ScriptAt u ops s)
    (hhead : ops.head?.map HostOp.event = some (.busWrite addr d)) (he : s.nextEvent = .busWrite addr d)
    (h : step s = .next t) : ScriptAt u (dropEnded t ops) t ∧ t.auto = s.auto := by
  cases hat with
  | @issues is _ hb hlead =>
    cases is with
    | nil => cases hhead
    | cons i is =>
      obtain ⟨v, ⟨hr, x, hx, hlead'⟩, hv⟩ := hlead
      have hcmd : s.nextEvent = cmdEvent i := he.trans (Option.some.inj hhead).symm
      have hissue := step_cmdEvent (step_next_iff.1 h).1 (wf_of_exec_next hx) hb (fun _ => hr) hcmd
      obtain rfl := Host.Outcome.next.inj (h.symm.trans hissue)
      refine ⟨.waits rfl rfl ?_, rfl⟩
      exact LeadsToResults.of_withoutCommand_eq ⟨v, ⟨hr, x, hx, hlead'⟩, hv⟩ (by simp)
  | polls a m v hb hlead => simp [HostOp.event] at hhead
  | waits hb hp hlead => simp [waitIdleOp, HostOp.event] at hhead

/-- EXEC runs the pending command, and the script goes on waiting. -/
theorem ScriptAt.of_exec {u s t : State} {ops : List HostOp} (hat : ScriptAt u ops s) (hbusy : s.busy = true)
    (he : s.nextEvent = .exec) (h : step s = .next t) : ScriptAt u ops t ∧ t.auto = s.auto := by
  cases hat with
  | issues hb _ => rw [hbusy] at hb; cases hb
  | polls _ _ _ hb _ => rw [hbusy] at hb; cases hb
  | @waits i is _ hb hp hlead =>
    obtain ⟨v, ⟨-, x, hx, hlead⟩, hv⟩ := hlead
    obtain ⟨y, hy, hxy, hb', -⟩ := step_exec_of_pending (step_next_iff.1 h).1 he hb hp hx
    obtain rfl := Host.Outcome.next.inj (h.symm.trans hy)
    refine ⟨.polls _ _ _ hb' ⟨v, hlead.of_withoutCommand_eq hxy.symm, hv⟩, ?_⟩
    obtain ⟨-, -, -, hauto, -⟩ := exec_next_keeps hx
    exact (congrArg State.auto hxy).trans hauto

/-- Every step that a script's schedule admits keeps the script on its way, with AUTO = 0. -/
theorem ScriptAt.step {u s t : State} {ops : List HostOp} {e : Event} (hat : ScriptAt u ops s) (hh : s.handoff)
    (hauto : s.auto = false) (hadmits : scriptAdmits ops s e = true) (h : step (s.withAgenda [e]) = .next t) :
    ScriptAt u (scriptRest ops t e) t ∧ t.auto = false := by
  have hat := hat.withAgenda [e]
  have passes (hp : passive e = true) : ScriptAt u ops t ∧ t.auto = false := by
    obtain ⟨-, -, ⟨-, ha⟩, -⟩ := step_passive_keeps (s := s.withAgenda [e]) hp h
    exact ⟨hat.of_passive hh hp h, ha.trans hauto⟩
  cases e with
  | busRead addr => exact ⟨hat.of_busRead hh (by simpa [scriptAdmits] using hadmits) rfl h, (passes rfl).2⟩
  | busWrite addr d =>
    obtain ⟨hat', ha⟩ := hat.of_busWrite (by simpa [scriptAdmits] using hadmits) rfl h
    exact ⟨hat', ha.trans hauto⟩
  | sample data => exact passes rfl
  | syncA2C => exact passes rfl
  | syncC2A => exact passes rfl
  | exec =>
    obtain ⟨hat', ha⟩ := hat.of_exec hadmits rfl h
    exact ⟨hat', ha.trans hauto⟩
  | autoIssue =>
    obtain ⟨ha, -⟩ := State.autoEnabled_iff.1 hadmits
    rw [hauto] at ha
    cases ha
  | reset => cases hadmits

/-- Whatever the schedule, a script ends with the results that its commands lead to. -/
theorem scriptEnd_results {u s t : State} {es : List Event} {ops : List HostOp} (hh : s.handoff) (hp : s.pendingOk)
    (hauto : s.auto = false) (hat : ScriptAt u ops s) (hend : scriptEnd es ops s = some t) :
    t.results = u.results ∧ t.quiescent := by
  induction es generalizing ops s with
  | nil =>
    rcases scriptEnd_cases hend with ⟨-, hops, hquiet, rfl⟩ | ⟨_, _, _, hes, -⟩
    · cases hat with
      | @issues is _ hb hlead =>
        cases is with
        | nil => exact ⟨hlead.results_eq, hquiet⟩
        | cons i is => cases hops
      | polls => cases hops
      | waits => cases hops
    · cases hes
  | cons e es ih =>
    rcases scriptEnd_cases hend with ⟨hes, -⟩ | ⟨e, es, v, hes, hadmits, hv, hrest⟩
    · cases hes
    · cases hes
      obtain ⟨hat', hauto'⟩ := hat.step hh hauto hadmits hv
      obtain ⟨hh', hp'⟩ := handoffInvariantsHold.2 (s.withAgenda [e]) v hh hp hv
      exact ih hh' hp' hauto' hat' hrest

/-- Settles O53. The four commands and FRAME lead to the same state. On the one schedule, rounds of commands end where
the commands lead; under any other, a script stays on its way to their results. -/
theorem fourCommandScriptEqualsFrameScript : Obligations.FourCommandScriptEqualsFrameScript := by
  refine ⟨fun s hwf hb hr => ?_, fun s t u es hwf hh hb hr hauto hu hend => ?_⟩
  · obtain ⟨u, hu⟩ : ∃ u, exec .frame s = .next u := ⟨_, rfl⟩
    obtain ⟨hru, hqu⟩ := exec_frame_releases hu
    obtain ⟨t, hrunt, ht, hbt⟩ := runSteps_script hwf hb (commandsLead_fourCommands hr hu)
    obtain ⟨v, hrunv, hv, hbv⟩ := runSteps_script hwf hb (commandsLead_frame hr hu)
    exact ⟨t, v, hrunt, hrunv, hbt, (State.ready_of_withoutCommand ht).trans hru,
      (State.relReq_of_withoutCommand ht).trans hqu,
      State.architectural_of_withoutCommand (ht.trans hv.symm) (hbt.trans hbv.symm)⟩
  · have hp : s.pendingOk := fun h => absurd (hb.symm.trans h) Bool.false_ne_true
    have hends : t.results = u.results ∧ t.quiescent := by
      rcases hend with hend | hend
      · exact scriptEnd_results hh hp hauto (.polls _ _ _ hb ⟨u, commandsLead_frame hr hu, rfl⟩) hend
      · exact scriptEnd_results hh hp hauto (.polls _ _ _ hb ⟨u, commandsLead_fourCommands hr hu, rfl⟩) hend
    obtain ⟨hres, hbt, -, hqt, -⟩ := hends
    simp only [State.results, Prod.mk.injEq] at hres
    obtain ⟨hpow, hbk, hact, hhc, ho, he, hec⟩ := hres
    obtain ⟨-, -, -, -, -, heu, hecu⟩ := exec_next_keeps hu
    exact ⟨hpow, hbk, hact, hhc, ho, hbt, hqt, he.trans heu, hec.trans hecu⟩

end Sys2Proof.Machine
end

section
/-! PROOFS. Nothing stops in a good run: each command completes on its legal operands, and no step of a state that meets
the invariant faults or is refused (60_exceptions.md R200, R211; 44_control.md R185). -/

namespace Sys2Proof.Machine

/-- A command with an operand out of range, which only DFTB and SETA can have, stops by name (log entry 11). -/
theorem exec_of_not_wf {i : Instr} {s : State} (h : i.wf s.cfg = false) : exec i s = .fault .illegalPcmd := by
  cases i with
  | dftb k => exact if_neg (of_decide_eq_false h)
  | seta c v => exact if_neg (of_decide_eq_false h)
  | _ => cases h

/-- Settles O16: operands in range pass the checks of DFTB and SETA, and operands out of range fail them. -/
theorem everyCommandCompletesOnItsLegalOperands : Obligations.EveryCommandCompletesOnItsLegalOperands :=
  fun _ _ => ⟨exec_of_wf, exec_of_not_wf⟩

/-- Settles O10: a fault needs a pending illegal word and a refusal an ill-formed configuration, and the invariant
excludes both. -/
theorem noStepOfAGoodStateFaults : Obligations.NoStepOfAGoodStateFaults := by
  intro s hinv
  obtain ⟨hwf, -, -, -, -, -, -, hpending, -⟩ := hinv
  cases hstep : step s with
  | next t => exact ⟨t, rfl⟩
  | fault f =>
    obtain ⟨-, -, hbusy, hillegal⟩ := (engineFaultsExactlyOnAnIllegalPendingWord s).1 ⟨f, hstep⟩
    obtain ⟨hlegal, -⟩ := hpending hbusy
    rw [hillegal] at hlegal
    cases hlegal
  | refused r =>
    obtain ⟨hill, -⟩ := (stepRefusesExactlyIllFormedConfigurations s r).1 hstep
    exact absurd hwf hill

end Sys2Proof.Machine
end

section
/-! PROOFS. What the host reads after reset (70_reset_and_hazards.md R222): a rule for each kind of register, under any
configuration for which it holds, and their instance at the defaults. -/

namespace Sys2Proof.Machine

/-- After reset the frame fills and no flag is up, so STATUS is the draw of FILL alone (20_memory.md R58). -/
theorem State.statusWord_resetOf {cfg : Config} (h : cfg.wf) (d : Word) :
    (State.resetOf cfg).statusWord d = BitVec.ofNat 32 (drawUpTo d cfg.n) <<< 8 := by
  obtain ⟨hn, -⟩ := Config.bounds_of_wf h
  have hdraw := drawUpTo_le d cfg.n
  have hfill : (State.resetOf cfg).fill d = drawUpTo d cfg.n := State.fill_of_filling d rfl rfl
  apply BitVec.eq_of_toNat_eq
  rw [BitVec.toNat_shiftLeft, Nat.shiftLeft_eq, State.statusWord, hfill]
  simp only [toNat_append_eq_add, BitVec.toNat_ofNat, State.resetOf, BitVec.ofBool_false,
    BitVec.ofNat_eq_ofNat]
  omega

/-- The flags that are all down after reset read as the word 0 (20_memory.md R60, R61). -/
theorem flagsWord_of_all_false {f : Nat → Bool} (h : ∀ c, f c = false) (m : Nat) :
    flagsWord ((List.range m).map f) = 0 := by
  apply BitVec.eq_of_getLsbD_eq
  intro c hc
  rw [getLsbD_flagsWord f m hc, h c, Bool.and_false, BitVec.ofNat_eq_ofNat, BitVec.getLsbD_zero]

theorem State.outWord_resetOf (cfg : Config) : (State.resetOf cfg).outWord = 0 :=
  flagsWord_of_all_false (State.outAt_resetOf cfg) _

theorem State.activeWord_resetOf (cfg : Config) : (State.resetOf cfg).activeWord = 0 :=
  flagsWord_of_all_false (State.activeAt_resetOf cfg) _

/-! BUSY = 0 after reset, so the result windows are exact, and they hold zeros (20_memory.md R61, R64 to R66). -/

theorem State.readReg_activer_resetOf (cfg : Config) (d : Word) : (State.resetOf cfg).readReg d .activer = 0 := by
  rw [State.readReg, State.whileIdle_of_idle rfl, State.activeWord_resetOf]

theorem State.readReg_power_resetOf (cfg : Config) (d : Word) (k : Nat) :
    (State.resetOf cfg).readReg d (.power k) = 0 := by
  rw [State.readReg, State.whileIdle_of_idle rfl, State.powerAt_resetOf, ite_self]

theorem State.readReg_bucket_resetOf (cfg : Config) (d : Word) (b : Nat) :
    (State.resetOf cfg).readReg d (.bucket b) = 0 := by
  rw [State.readReg, State.whileIdle_of_idle rfl, State.bucketAt_resetOf, ite_self]

theorem State.readReg_hcnt_resetOf (cfg : Config) (d : Word) (c : Nat) :
    (State.resetOf cfg).readReg d (.hcnt c) = 0 := by
  rw [State.readReg, State.whileIdle_of_idle rfl, State.hcntAt_resetOf]
  exact ite_self _

/-- READY = 0 after reset, so a word of the frame window is a draw (20_memory.md R67). -/
theorem State.readReg_framew_resetOf {cfg : Config} (d : Word) {n : Nat} (h : n < cfg.n) :
    (State.resetOf cfg).readReg d (.framew n) = d :=
  if_neg (Nat.not_le.2 h)

/-- A word of the twiddle window inside the table (20_memory.md R68). -/
theorem State.readReg_twid_of_lt {s : State} (d : Word) {j : Nat} (h : j < s.cfg.n) :
    s.readReg d (.twid j) = sext32 (twiddleAt s.cfg j) :=
  if_pos h

/-- A read of an address is a read of the register that it reaches (20_memory.md R52). -/
theorem State.readAt_of_regOf (s : State) (d : Word) {addr : Addr} {r : Reg} (h : regOf addr = r) :
    s.readAt d addr = s.readReg d r :=
  congrArg (s.readReg d) h

/-- Settles O22: each address reads its register, which the defaults and the reset values give. -/
theorem resetStateReadsAsSpecified : Obligations.ResetStateReadsAsSpecified := by
  intro d
  have hlow : 0 < 4 := by decide
  have hparam0 : param0Word Config.default = 0x10080820 := by decide
  have hparam1 : param1Word Config.default = 0x00000E08 := by decide
  have hctrl : State.reset.ctrlWord = 0 := by decide
  refine ⟨?_, ?_, ?_, ⟨drawUpTo d 32, drawUpTo_le d 32, ?_⟩, ?_, ?_,
    fun k hk => ?_, fun b hb => ?_, fun c hc => ?_, fun n hn => ?_, fun j hj => ?_⟩
  · exact (State.reset.readAt_of_regOf d (r := .param0) rfl).trans hparam0
  · exact (State.reset.readAt_of_regOf d (r := .param1) rfl).trans hparam1
  · exact (State.reset.readAt_of_regOf d (r := .ctrl) rfl).trans hctrl
  · exact (State.reset.readAt_of_regOf d (r := .status) rfl).trans (State.statusWord_resetOf default_wf d)
  · exact (State.reset.readAt_of_regOf d (r := .outr) rfl).trans (State.outWord_resetOf _)
  · exact (State.reset.readAt_of_regOf d (r := .activer) rfl).trans (State.readReg_activer_resetOf _ d)
  · exact (State.reset.readAt_windowAddr d (regAtSlot_power k hk) hlow).trans (State.readReg_power_resetOf _ d k)
  · exact (State.reset.readAt_windowAddr d (regAtSlot_bucket b hb) hlow).trans (State.readReg_bucket_resetOf _ d b)
  · exact (State.reset.readAt_windowAddr d (regAtSlot_hcnt c hc) hlow).trans (State.readReg_hcnt_resetOf _ d c)
  · exact (State.reset.readAt_windowAddr d (regAtSlot_framew n (by omega)) hlow).trans
      (State.readReg_framew_resetOf d hn)
  · exact (State.reset.readAt_windowAddr d (regAtSlot_twid j (by omega)) hlow).trans
      (State.readReg_twid_of_lt d hj)

end Sys2Proof.Machine
end
